-- ==== Sys2Proof/Word.lean ====
section
/-! DEFINITION. The words of the machine: registers and command words are 32 bits (00_scope R6, R16), symbols are bytes (R13),
a bit sequence is indexed in transmission order (R16). -/

namespace Sys2Proof

/-- A register or a command word: 32 bits, bit 31 most significant (R16, R100). -/
abbrev Word := BitVec 32

/-- A Reed-Solomon symbol or an information byte (R13, R16). -/
abbrev Byte := BitVec 8

/-- A bit sequence `s<0>, s<1>, ...` in transmission order: index 0 is the first bit received (R16).
Never a field of State: the burst and the information bits are held packed in registers (R75). -/
abbrev BitSeq := Nat → Bool

end Sys2Proof
end

