-- ==== Sys2Proof/Config.lean ====
section
/-! DEFINITION. What is fixed at manufacture (the record CONST of 00_scope R7; its default values stand in
Machine/Constants.lean) and the two free values the spec leaves open (93_implementation_defined U1, U3). -/

namespace Sys2Proof

/-- A Hamming code as 00_scope R11 gives one: four parity checks, check `j` being the list of the bit indices it sums,
and the single-error position table from a syndrome to the index of the bit to invert. A syndrome that the table does
not list names no position. -/
structure HammingCode where
  checks : List (List Nat)
  positions : List (BitVec 4 × Nat)
  deriving DecidableEq, Repr

/-- The protocol constant record CONST (R7 to R15, and the fixed sizes of R6 that the rules read through CONST).
"A model takes CONST as an argument": every operation that reads a constant takes this record. -/
structure Const where
  /-- R8, Voice-LC-Header. -/
  maskVlc : BitVec 24
  /-- R8, Terminator-with-LC. -/
  maskTlc : BitVec 24
  /-- R8, PI-Header. -/
  maskPi : BitVec 16
  /-- R8, Data-Header. -/
  maskDh : BitVec 16
  /-- R8, CSBK. -/
  maskCsbk : BitVec 16
  /-- R9, the sync patterns in the enumeration order of BurstType. -/
  sync : Vector (BitVec 48) 9
  /-- R6, SYNC_THRESHOLD. -/
  syncThreshold : Nat
  /-- R10, the parity of the slot-type code. -/
  golayPar : BitVec 8 → BitVec 12
  /-- R172, ST_MAX_ERR. -/
  stMaxErr : Nat
  /-- R11, the BPTC row code. -/
  h15 : HammingCode
  /-- R11, the BPTC column code. -/
  h13 : HammingCode
  /-- R12, the multiplier of the BPTC interleave. -/
  interleave : Nat
  /-- R194, BPTC_MAX_PASSES. -/
  bptcMaxPasses : Nat
  /-- R13, the field polynomial, bit i the coefficient of x^i. -/
  gfPoly : BitVec 9
  /-- R13, the primitive element α. -/
  gfAlpha : Byte
  /-- R13, the coefficients of x^2, x^1 and x^0 of the generator polynomial. DESIGN CHOICE (log 8): a record may hold any
  coefficients, also ones that are not those of (x+α)(x+α^2)(x+α^3); the parity of CRCCHK then uses these and the syndromes
  of RSDEC the roots, which are two codes. The default holds the product's. -/
  rsGen : Byte × Byte × Byte
  /-- R14, the generator of the 16-bit check, less its x^16 term. -/
  crcPoly : BitVec 16
  /-- R14, the initial register. -/
  crcInit : BitVec 16
  /-- R14, the final XOR. -/
  crcXor : BitVec 16

/-- FREE VALUE (U1, R73; log 3): the ANY32 value of the `n`-th read that the spec leaves open of the core instance whose
sequence of free values is `stream`. Written `Config.anyRead stream n`. -/
opaque Config.anyRead : Nat → Nat → Word

/-- FREE VALUE (U3, R308; log 2): how many inputs come between the issue of the `n`-th command and its core step, in the core
instance whose sequence of free values is `stream`. Written `Config.coreDelay stream n`. A number, so finite: this is the
weak fairness of R308. -/
opaque Config.coreDelay : Nat → Nat → Nat

end Sys2Proof
end

