-- ==== Sys2Proof/Syntax.lean ====
section
/-! DEFINITION. The names the rules use: the commands (one constructor per row of spec/opcode_table.json), the fields of a
command word, the mask kinds, the error codes, and the operations of a host program (30_encoding R106, R107). -/

namespace Sys2Proof

/-- The 13 legal commands (R105). No command has an operand field: the selector is part of the name (R103). -/
inductive Instr where
  | nop
  | classify
  | slottype
  | bptc
  | rsdecNone
  | rsdecVlc
  | rsdecTlc
  | crcchkVlc
  | crcchkTlc
  | crcchkPi
  | crcchkDh
  | crcchkCsbk
  | clear
  deriving DecidableEq, Repr

/-- The fields of a command word, RSV[31:8], SEL[7:4], OP[3:0] (R101). -/
structure CommandFields where
  rsv : BitVec 24
  sel : BitVec 4
  op : BitVec 4
  deriving DecidableEq, Repr

/-- The error codes of STATUS.ERR (60_exceptions R270). The codes 9 to 15 are never written (U6). -/
inductive ErrorCode where
  | none
  | classificationFailure
  | slotTypeError
  | ccMismatch
  | bptcUncorrectable
  | rsUncorrectable
  | crcMismatch
  | illegalOpcode
  | illegalSelector
  deriving DecidableEq, Repr

/-- What comes to the core from outside, one at a time: the host's accesses (R72 to R74), the host's polling loop `wait`
(R107) and the platform's reset input (R300). `width` is in bytes and `off` is the byte offset; an access that R72 does
not define can be asked for, and is stopped by name. -/
inductive HostOp where
  | read (width off : Nat)
  | write (width off : Nat) (value : Word)
  | wait
  | reset
  deriving DecidableEq, Repr

end Sys2Proof
end

