-- ==== Sys2Proof/WellFormed.lean ====
section
/-! DEFINITION. Which command fields make a legal word (30_encoding R101 to R103) and which host accesses the core defines
(20_memory R72). A command of Instr has no operand, so every term of Instr is well-formed. -/

namespace Sys2Proof

/-- OP is one of the seven opcodes of R102. -/
def CommandFields.opDefined (f : CommandFields) : Bool := f.op.toNat ≤ 6

/-- SEL is legal for OP, by the table of R103. -/
def CommandFields.selLegal (f : CommandFields) : Bool :=
  if f.op = 4 then f.sel.toNat ≤ 2
  else if f.op = 5 then 1 ≤ f.sel.toNat && f.sel.toNat ≤ 5
  else f.sel = 0

/-- The fields of a legal command word. -/
def CommandFields.wellFormed (f : CommandFields) : Bool := f.rsv = 0 && f.opDefined && f.selLegal

/-- R72: a 32-bit access at a multiple of 4 inside the 256-byte window. -/
def accessWellFormed (width off : Nat) : Bool := width = 4 && off % 4 = 0 && off < 0x100

/-- A host operation that the core defines. -/
def HostOp.wellFormed : HostOp → Bool
  | .read width off => accessWellFormed width off
  | .write width off _ => accessWellFormed width off
  | .wait => true
  | .reset => true

end Sys2Proof
end

