-- ==== Sys2Proof/Decode.lean ====
section
/-! DEFINITION. Decoding of the command word, total on every 32-bit word (30_encoding R104), and the encoder (R105). -/

namespace Sys2Proof

/-- The fields of a command word (R101). -/
def commandFields (w : Word) : CommandFields :=
  { rsv := w.extractLsb' 8 24, sel := w.extractLsb' 4 4, op := w.extractLsb' 0 4 }

/-- The word with the given fields (R101). -/
def CommandFields.word (f : CommandFields) : Word := f.rsv ++ f.sel ++ f.op

/-- A command for which only SEL = 0 is legal (R103). -/
def decodeUnselected (sel : BitVec 4) (i : Instr) : Except ErrorCode Instr :=
  if sel = 0 then .ok i else .error .illegalSelector

/-- RSDEC's selectors (R103). -/
def decodeRsdec (sel : BitVec 4) : Except ErrorCode Instr :=
  match sel.toNat with
  | 0 => .ok .rsdecNone
  | 1 => .ok .rsdecVlc
  | 2 => .ok .rsdecTlc
  | _ => .error .illegalSelector

/-- CRCCHK's selectors (R103). -/
def decodeCrcchk (sel : BitVec 4) : Except ErrorCode Instr :=
  match sel.toNat with
  | 1 => .ok .crcchkVlc
  | 2 => .ok .crcchkTlc
  | 3 => .ok .crcchkPi
  | 4 => .ok .crcchkDh
  | 5 => .ok .crcchkCsbk
  | _ => .error .illegalSelector

/-- R104: RSV first, then the opcode, then the selector (R273). -/
def decodeFields (f : CommandFields) : Except ErrorCode Instr :=
  if f.rsv ≠ 0 then .error .illegalOpcode
  else match f.op.toNat with
    | 0 => decodeUnselected f.sel .nop
    | 1 => decodeUnselected f.sel .classify
    | 2 => decodeUnselected f.sel .slottype
    | 3 => decodeUnselected f.sel .bptc
    | 4 => decodeRsdec f.sel
    | 5 => decodeCrcchk f.sel
    | 6 => decodeUnselected f.sel .clear
    | _ => .error .illegalOpcode

/-- R104, on the word in CMD: the command it encodes, or the error code an illegal word raises. -/
def decode (w : Word) : Except ErrorCode Instr := decodeFields (commandFields w)

/-- The fields of a command's word (R102, R103). -/
def Instr.fields : Instr → CommandFields
  | .nop => ⟨0, 0x0, 0x0⟩
  | .classify => ⟨0, 0x0, 0x1⟩
  | .slottype => ⟨0, 0x0, 0x2⟩
  | .bptc => ⟨0, 0x0, 0x3⟩
  | .rsdecNone => ⟨0, 0x0, 0x4⟩
  | .rsdecVlc => ⟨0, 0x1, 0x4⟩
  | .rsdecTlc => ⟨0, 0x2, 0x4⟩
  | .crcchkVlc => ⟨0, 0x1, 0x5⟩
  | .crcchkTlc => ⟨0, 0x2, 0x5⟩
  | .crcchkPi => ⟨0, 0x3, 0x5⟩
  | .crcchkDh => ⟨0, 0x4, 0x5⟩
  | .crcchkCsbk => ⟨0, 0x5, 0x5⟩
  | .clear => ⟨0, 0x0, 0x6⟩

/-- The word of a command (R105). -/
def encode (i : Instr) : Word := i.fields.word

/-- The command of an instruction of `nbits` bits that are `w`, bits above `nbits` zero. Every command is one 32-bit word
(R100), numbered as the opcode table numbers it. -/
def decodeTableWord (nbits w : Nat) : Option Instr :=
  if nbits ≤ 32 ∧ w < 2 ^ nbits then
    match decode (BitVec.ofNat 32 w) with
    | .ok i => some i
    | .error _ => none
  else none

end Sys2Proof
end

