-- ==== Sys2Proof/Machine/State.lean ====
section
/-! DEFINITION. The state of one core instance (10_state R31 to R42), its reset value (R48), and the reasons a step stops.
The core has no memory, no general registers and no program counter (R43, R44, R70): the registers of the window are the
whole machine. The last six fields are the model's own (log 1 to 4, 9). -/

namespace Sys2Proof.Machine

/-- STATUS (R33); its reserved bits hold nothing. -/
structure Status where
  /-- bit 0: a command is issued and not yet completed. -/
  busy : Bool
  /-- bit 1: the last issued command has completed. -/
  done : Bool
  /-- bit 2: the last completed command succeeded. -/
  ok : Bool
  /-- bits 7:4: the error of the last completed command. -/
  err : ErrorCode
  /-- bits 11:8: OP of the last completed command. -/
  lastop : BitVec 4
  /-- bit 16: sticky, a host write was dropped. -/
  wdrop : Bool
  deriving DecidableEq, Repr

/-- CCFILT (R34): the expected colour code and the filter's enable. -/
structure Ccfilt where
  ecc : BitVec 4
  en : Bool
  deriving DecidableEq, Repr

/-- CLSR (R35), the classification result. -/
structure Clsr where
  type : BitVec 4
  dist : BitVec 6
  idx : BitVec 4
  ok : Bool
  deriving DecidableEq, Repr

/-- STR (R36), the slot-type result. -/
structure Str where
  dt : BitVec 4
  cc : BitVec 4
  nerr : BitVec 3
  ok : Bool
  ccm : Bool
  deriving DecidableEq, Repr

/-- BPTCR (R37), the BPTC result. -/
structure Bptcr where
  flips : BitVec 8
  passes : BitVec 3
  ok : Bool
  deriving DecidableEq, Repr

/-- RSR (R38), the Reed-Solomon result. -/
structure Rsr where
  ncorr : BitVec 2
  pos : BitVec 4
  ok : Bool
  deriving DecidableEq, Repr

/-- CRCR (R39), the check result. -/
structure Crcr where
  computed : BitVec 24
  ok : Bool
  deriving DecidableEq, Repr

/-- The registers of the window (R71). -/
inductive Reg where
  | id
  | cmd
  | status
  | ccfilt
  | clsr
  | str
  | bptcr
  | rsr
  | crcr
  | burst (k : Fin 9)
  | info (k : Fin 3)
  deriving DecidableEq, Repr

/-- One core instance, and what is still to come to it from outside. -/
structure State where
  /-- CMD (R32): all 32 bits as written. -/
  cmd : Word
  status : Status
  ccfilt : Ccfilt
  clsr : Clsr
  str : Str
  bptcr : Bptcr
  rsr : Rsr
  crcr : Crcr
  /-- BURST0 to BURST7 (R40). -/
  burst : Vector Word 8
  /-- BURST8[31:24], the only stored bits of BURST8 (R40; log 11). -/
  burst8 : Byte
  /-- INFO0 to INFO2 (R41). -/
  info : Vector Word 3
  /-- The model's own (log 1): the host's operations and resets still to come, oldest first. -/
  inputs : List HostOp
  /-- The model's own (log 4): the values the host's reads returned, newest first. -/
  reads : List Word
  /-- The model's own (log 2): how many inputs still come before the pending core step. -/
  delay : Nat
  /-- The model's own (log 2): how many commands have been issued. -/
  issues : Nat
  /-- The model's own (log 3): how many ANY32 values have been drawn. -/
  draws : Nat
  /-- The model's own (log 2, 3, 9): which sequence of free values this instance draws from. -/
  stream : Nat
  deriving DecidableEq, Repr

/-- Why the machine stops with a fault. -/
inductive Fault where
  /-- Raised by a host access at an offset outside the 256-byte window (R70): the core's address space holds no such
  offset. Safe: the machine stops where the spec defines no access (log 6). -/
  | outsideWindow
  deriving DecidableEq, Repr

/-- Why a step has no meaning. -/
inductive Refusal where
  /-- Raised by an arm of exec whose command has no meaning yet. No arm does. Safe. -/
  | notModelled (mnemonic : String)
  /-- Raised by a host access of a width other than 32 bits (R72: "a model refuses the host step"). Safe. -/
  | undefinedWidth
  /-- Raised by a host access at an offset not a multiple of 4 (R72). Safe. -/
  | misaligned
  deriving DecidableEq, Repr

/-- Who takes the next step (R78): nobody is enabled, the core, or the host (or the platform's reset) with the input taken
from the queue. -/
inductive Turn where
  | idle
  | core
  | input (op : HostOp) (s : State)
  deriving DecidableEq, Repr

/-- CLSR after reset and after CLEAR: TYPE UNKNOWN (R35, R135). -/
def Clsr.reset : Clsr := ⟨9, 0, 0, false⟩
/-- STR after reset and after CLEAR (R36, R135). -/
def Str.reset : Str := ⟨0, 0, 0, false, false⟩
/-- BPTCR after reset and after CLEAR (R37, R135). -/
def Bptcr.reset : Bptcr := ⟨0, 0, false⟩
/-- RSR after reset and after CLEAR: POS none (R38, R135). -/
def Rsr.reset : Rsr := ⟨0, 0xF, false⟩
/-- CRCR after reset and after CLEAR (R39, R135). -/
def Crcr.reset : Crcr := ⟨0, false⟩

/-- The machine right after reset (R48, R300). The model's own fields start empty (DESIGN CHOICE, log 14). -/
def State.reset : State where
  cmd := 0
  status := ⟨false, false, false, .none, 0, false⟩
  ccfilt := ⟨0, false⟩
  clsr := .reset
  str := .reset
  bptcr := .reset
  rsr := .reset
  crcr := .reset
  burst := #v[0, 0, 0, 0, 0, 0, 0, 0]
  burst8 := 0
  info := #v[0, 0, 0]
  inputs := []
  reads := []
  delay := 0
  issues := 0
  draws := 0
  stream := 0

end Sys2Proof.Machine
end

