-- ==== Sys2Proof/Machine/Flags.lean ====
section
/-! DEFINITION. The flags: STATUS at the issue and at the completion of a command (40_control R130, R131), the numeric error
codes (60_exceptions R270), and the 32-bit view of each register with fields, reserved bits reading 0 (10_state R33 to R39). -/

namespace Sys2Proof

/-- The code written to STATUS.ERR (R270). -/
def ErrorCode.code : ErrorCode → BitVec 4
  | .none => 0
  | .classificationFailure => 1
  | .slotTypeError => 2
  | .ccMismatch => 3
  | .bptcUncorrectable => 4
  | .rsUncorrectable => 5
  | .crcMismatch => 6
  | .illegalOpcode => 7
  | .illegalSelector => 8

end Sys2Proof

namespace Sys2Proof.Machine

/-- STATUS after the issue of a command (R130): LASTOP and WDROP keep their values. -/
def Status.issued (f : Status) : Status := { f with busy := true, done := false, ok := false, err := .none }

/-- STATUS after the completion of the command whose word is `cmd` with error `err` (R131, R271): OK = 1 exactly when no
error was raised, LASTOP = CMD[3:0], WDROP kept. -/
def Status.completed (f : Status) (cmd : Word) (err : ErrorCode) : Status :=
  { f with busy := false, done := true, ok := err = .none, err := err, lastop := cmd.extractLsb' 0 4 }

/-- STATUS as a word (R33). -/
def Status.word (f : Status) : Word :=
  0#15 ++ BitVec.ofBool f.wdrop ++ 0#4 ++ f.lastop ++ f.err.code ++ 0#1 ++ BitVec.ofBool f.ok ++ BitVec.ofBool f.done
    ++ BitVec.ofBool f.busy

/-- CCFILT as a word (R34). -/
def Ccfilt.word (c : Ccfilt) : Word := 0#23 ++ BitVec.ofBool c.en ++ 0#4 ++ c.ecc

/-- CLSR as a word (R35). -/
def Clsr.word (c : Clsr) : Word := 0#7 ++ BitVec.ofBool c.ok ++ 0#4 ++ c.idx ++ 0#2 ++ c.dist ++ 0#4 ++ c.type

/-- STR as a word (R36). -/
def Str.word (r : Str) : Word := 0#18 ++ BitVec.ofBool r.ccm ++ BitVec.ofBool r.ok ++ 0#1 ++ r.nerr ++ r.cc ++ r.dt

/-- BPTCR as a word (R37). -/
def Bptcr.word (r : Bptcr) : Word := 0#15 ++ BitVec.ofBool r.ok ++ 0#5 ++ r.passes ++ r.flips

/-- RSR as a word (R38). -/
def Rsr.word (r : Rsr) : Word := 0#15 ++ BitVec.ofBool r.ok ++ 0#4 ++ r.pos ++ 0#6 ++ r.ncorr

/-- CRCR as a word (R39). -/
def Crcr.word (r : Crcr) : Word := 0#7 ++ BitVec.ofBool r.ok ++ r.computed

/-- CCFILT after a write of `v`: only ECC and EN are stored (R34, R74). -/
def Ccfilt.ofWord (v : Word) : Ccfilt := { ecc := v.extractLsb' 0 4, en := v.getLsbD 8 }

end Sys2Proof.Machine
end

