-- ==== Sys2Proof/Machine/Bits.lean ====
section
/-! DEFINITION. The notation of 00_scope R16 on bits: packing a bit sequence into an integer, popcount and parity, and
the remainder of polynomial division over GF(2). -/

namespace Sys2Proof.Machine

/-- The `n`-bit value whose bit `j` is `f j`. -/
def packBits : (n : Nat) → (Nat → Bool) → BitVec n
  | 0, _ => 0#0
  | n + 1, f => BitVec.cons (f n) (packBits n f)

/-- `int(s<a..a+n-1>)` (R16, R76): the `n`-bit integer whose most significant bit is `s<a>`. -/
def seqInt (n : Nat) (s : BitSeq) (a : Nat) : BitVec n := packBits n fun j => s (a + (n - 1 - j))

/-- How many of `f 0` to `f (n - 1)` hold. -/
def countTrue (f : Nat → Bool) : Nat → Nat
  | 0 => 0
  | n + 1 => countTrue f n + (f n).toNat

/-- `popcount(v)` (R16). -/
def popcount {w : Nat} (v : BitVec w) : Nat := countTrue v.getLsbD w

/-- The XOR of the bits of `d` that a parity check sums (R11). -/
def parityOver (idx : List Nat) (d : Nat → Bool) : Bool := idx.foldr (fun i p => d i ^^ p) false

/-- The value with only bit `i` set. -/
def bitAt (w i : Nat) : BitVec w := BitVec.twoPow w i

/-- `x mod_2 g` (R16) by long division, for a divisor `g` of degree `deg` and a dividend of degree below `deg + n`. -/
def polyRem {w : Nat} (g : BitVec w) (deg : Nat) : Nat → BitVec w → BitVec w
  | 0, x => x
  | n + 1, x => polyRem g deg n (if x.getLsbD (n + deg) then x ^^^ (g <<< n) else x)

end Sys2Proof.Machine
end

