-- ==== Sys2Proof/Machine/Operands.lean ====
section
/-! DEFINITION. The operands of the commands: the burst and the information bits in the registers that hold them
(20_memory R75, R76) and the fields that a command reads from them. -/

namespace Sys2Proof.Machine

/-- BURST{k} as a 32-bit register; bits 23:0 of BURST8 read 0 (R40). -/
def State.burstWord (s : State) (k : Nat) : Word :=
  if h : k < 8 then s.burst[k] else if k = 8 then s.burst8 ++ 0#24 else 0

/-- INFO{k} as a 32-bit register (R41). -/
def State.infoWord (s : State) (k : Nat) : Word := if h : k < 3 then s.info[k] else 0

/-- `BURST<i>` (R75), i = 0 to 263. -/
def State.burstBit (s : State) : BitSeq := fun i => (s.burstWord (i / 32)).getLsbD (31 - i % 32)

/-- `INFOBITS<i>` (R75), i = 0 to 95. -/
def State.infoBit (s : State) : BitSeq := fun i => (s.infoWord (i / 32)).getLsbD (31 - i % 32)

/-- `info_byte(k)` (R16, R75), k = 0 to 11. -/
def State.infoByte (s : State) (k : Nat) : Byte := seqInt 8 s.infoBit (8 * k)

/-- The 12 information bytes `info_byte(0..11)`. -/
def State.infoBytes (s : State) : List Byte := (List.range 12).map s.infoByte

/-- The sync field `int(BURST<108..155>)` (R149). -/
def State.syncField (s : State) : BitVec 48 := seqInt 48 s.burstBit 108

/-- The slot-type word `int(BURST<98..107> ++ BURST<156..165>)` (R170). -/
def State.slotTypeWord (s : State) : BitVec 20 := seqInt 10 s.burstBit 98 ++ seqInt 10 s.burstBit 156

/-- The received BPTC block `raw<0..195>` (R190). -/
def State.bptcRaw (s : State) : BitSeq := fun j => s.burstBit (if j < 98 then j else j + 68)

/-- The three INFO words that hold a sequence of 96 information bits (R75). -/
def packInfoBits (x : BitSeq) : Vector Word 3 := #v[seqInt 32 x 0, seqInt 32 x 32, seqInt 32 x 64]

/-- The INFO word that holds the bytes `b[4j]` to `b[4j+3]`, the first in bits 31:24 (R75). -/
def packInfoWord (b : List Byte) (j : Nat) : Word :=
  b.getD (4 * j) 0 ++ b.getD (4 * j + 1) 0 ++ b.getD (4 * j + 2) 0 ++ b.getD (4 * j + 3) 0

/-- The three INFO words that hold the 12 bytes `b[0..11]` (R75). -/
def packInfoBytes (b : List Byte) : Vector Word 3 := #v[packInfoWord b 0, packInfoWord b 1, packInfoWord b 2]

end Sys2Proof.Machine
end

