-- ==== Sys2Proof/Machine/Ops.lean ====
section
/-! DEFINITION. The named operations on the registers: the update of each register, the issue and the completion of a command
(40_control R130, R131), raising an error (60_exceptions R271: the core's only "exception", which transfers no control and
saves nothing), reset (70_reset R300), and the register window as the host sees it (20_memory R70 to R74). -/

namespace Sys2Proof.Machine

def State.setStatus (s : State) (v : Status) : State := { s with status := v }
def State.setCcfilt (s : State) (v : Ccfilt) : State := { s with ccfilt := v }
def State.setClsr (s : State) (v : Clsr) : State := { s with clsr := v }
def State.setStr (s : State) (v : Str) : State := { s with str := v }
def State.setBptcr (s : State) (v : Bptcr) : State := { s with bptcr := v }
def State.setRsr (s : State) (v : Rsr) : State := { s with rsr := v }
def State.setCrcr (s : State) (v : Crcr) : State := { s with crcr := v }
def State.setInfo (s : State) (v : Vector Word 3) : State := { s with info := v }
def State.setWdrop (s : State) (b : Bool) : State := s.setStatus { s.status with wdrop := b }
/-- The same instance drawing from the sequence `n` of free values (log 9). -/
def State.setStream (s : State) (n : Nat) : State := { s with stream := n }
def State.pushRead (s : State) (v : Word) : State := { s with reads := v :: s.reads }

/-- The completion of the executing command with error `err`, `.none` for success (R131). -/
def State.complete (s : State) (err : ErrorCode) : State := s.setStatus (s.status.completed s.cmd err)

/-- `raise Error(code)` (R16, R271): the failure writes are already in `s`; the command completes with OK = 0 and ERR = code.
Nothing is saved, no mode changes and control goes nowhere; what is "returned from" is the host's next action (R275). -/
def State.raise (s : State) (code : ErrorCode) : State := s.complete code

/-- The issue of the command word `v` (R130): decoding does not happen here. The model draws how many inputs come before the
core step, from the instance's own sequence (log 2). -/
def State.issue (s : State) (v : Word) : State :=
  { s with cmd := v, status := s.status.issued, delay := Config.coreDelay s.stream s.issues, issues := s.issues + 1 }

/-- The issue of the command word `v` with its core step next: with BUSY = 0 one of the schedules R308 allows. It does not
look at BUSY (DESIGN CHOICE, log 5). -/
def State.issueNow (s : State) (v : Word) : State := { s.issue v with delay := 0 }

/-- The reset event (R300): every register takes its reset value and a pending command is discarded. What is still to come
from outside, what the host has read, the model's counters and its sequence of free values are not registers (log 13). -/
def State.resetCore (s : State) : State :=
  { State.reset with inputs := s.inputs, reads := s.reads, issues := s.issues, draws := s.draws, stream := s.stream }

/-- The address map of the window (R71). Offsets not listed are unmapped. -/
def windowMap : List (Nat × Reg) :=
  [(0x000, .id), (0x004, .cmd), (0x008, .status), (0x00C, .ccfilt), (0x010, .clsr), (0x014, .str), (0x018, .bptcr),
   (0x01C, .rsr), (0x020, .crcr), (0x040, .burst 0), (0x044, .burst 1), (0x048, .burst 2), (0x04C, .burst 3),
   (0x050, .burst 4), (0x054, .burst 5), (0x058, .burst 6), (0x05C, .burst 7), (0x060, .burst 8), (0x080, .info 0),
   (0x084, .info 1), (0x088, .info 2)]

/-- The register at an offset, `none` where the offset is unmapped (R71). -/
def regAt (off : Nat) : Option Reg := windowMap.lookup off

/-- ID's constant (R31). -/
def idValue : Word := 0x42434301

/-- The value of a register with every reserved bit 0 (R73). -/
def State.readReg (s : State) : Reg → Word
  | .id => idValue
  | .cmd => s.cmd
  | .status => s.status.word
  | .ccfilt => s.ccfilt.word
  | .clsr => s.clsr.word
  | .str => s.str.word
  | .bptcr => s.bptcr.word
  | .rsr => s.rsr.word
  | .crcr => s.crcr.word
  | .burst k => s.burstWord k
  | .info k => s.infoWord k

/-- The value at an offset while no command is pending; an unmapped offset reads 0 (R73). -/
def State.windowRead (s : State) (off : Nat) : Word :=
  match regAt off with
  | none => 0
  | some r => s.readReg r

/-- A write of BURST{k} (R74): all 32 bits for k = 0 to 7, bits 31:24 for k = 8. -/
def State.writeBurst (s : State) (k : Fin 9) (v : Word) : State :=
  if h : k.val < 8 then { s with burst := s.burst.set k.val v } else { s with burst8 := v.extractLsb' 24 8 }

/-- A write of INFO{k} (R74). -/
def State.writeInfo (s : State) (k : Fin 3) (v : Word) : State := s.setInfo (s.info.set k.val v)

/-- A write of a register while no command is pending (R74): read-only registers ignore it, CMD issues, STATUS clears WDROP
where bit 16 is 1. -/
def State.writeReg (s : State) (v : Word) : Reg → State
  | .id => s
  | .cmd => s.issue v
  | .status => if v.getLsbD 16 then s.setWdrop false else s
  | .ccfilt => s.setCcfilt (.ofWord v)
  | .clsr => s
  | .str => s
  | .bptcr => s
  | .rsr => s
  | .crcr => s
  | .burst k => s.writeBurst k v
  | .info k => s.writeInfo k v

/-- ID and STATUS are the two registers that read normally while BUSY (R73). -/
def readableWhileBusy (off : Nat) : Bool := off = 0x000 || off = 0x008

/-- `MemRead(off, 4)` (R73): the value goes to the host; no register changes. While BUSY a register other than ID and STATUS
reads ANY32, a fresh free value (U1) from the instance's own sequence (log 3). -/
def State.hostRead (s : State) (off : Nat) : State :=
  if s.status.busy && !readableWhileBusy off then
    { s.pushRead (Config.anyRead s.stream s.draws) with draws := s.draws + 1 }
  else s.pushRead (s.windowRead off)

/-- `MemWrite(off, 4, v)` (R74): an unmapped offset ignores it; while BUSY it is dropped and recorded in WDROP (R283). -/
def State.hostWrite (s : State) (off : Nat) (v : Word) : State :=
  match regAt off with
  | none => s
  | some r => if s.status.busy then s.setWdrop true else s.writeReg v r

end Sys2Proof.Machine
end

