-- ==== Sys2Proof/Machine/Control.lean ====
section
/-! DEFINITION. NOP, CLEAR and the execution of an illegal word (40_control R134, R135, R136). -/

namespace Sys2Proof.Machine

/-- R134: NOP does nothing but complete. -/
def execNop (s : State) : Host.Outcome State Fault Refusal := .next (s.complete .none)

/-- R135: the result registers and WDROP take their reset values. -/
def State.clearResults (s : State) : State :=
  (((((s.setClsr .reset).setStr .reset).setBptcr .reset).setRsr .reset).setCrcr .reset).setWdrop false

/-- R135: CLEAR. -/
def execClear (s : State) : Host.Outcome State Fault Refusal := .next (s.clearResults.complete .none)

/-- R136: an illegal word changes only STATUS. -/
def execIllegal (code : ErrorCode) (s : State) : Host.Outcome State Fault Refusal := .next (s.raise code)

end Sys2Proof.Machine
end

