-- ==== Sys2Proof/Machine/Agents.lean ====
section
/-! DEFINITION. The agents outside the core and whose turn it is: the step of the host and of the platform's reset input
(20_memory R72 to R74, 30_encoding R107, 70_reset R300), the interleaving (R78, R308; log 1, 2, 5), and one step of the
machine around a meaning of the commands (40_control R131). -/

namespace Sys2Proof.Machine

/-- R72: a host access is taken only if it is 32 bits wide, at a multiple of 4, inside the window (log 6). -/
def guardAccess (width off : Nat) (s : State) : Host.Outcome State Fault Refusal :=
  if width ≠ 4 then .refused .undefinedWidth
  else if off % 4 ≠ 0 then .refused .misaligned
  else if 0x100 ≤ off then .fault .outsideWindow
  else .next s

/-- `wait` (R107): one `rd STATUS`, repeated while the value read has bit 0 (BUSY) = 1. The repetition is a later step: the
operation goes back to the head of the inputs (log 7). -/
def State.hostPoll (s : State) : State :=
  if s.status.busy then { s.hostRead 0x008 with inputs := .wait :: s.inputs } else s.hostRead 0x008

/-- The step of the agent outside the core that has the turn. -/
def hostStep (op : HostOp) (s : State) : Host.Outcome State Fault Refusal :=
  match op with
  | .read width off => guardAccess width off (s.hostRead off)
  | .write width off v => guardAccess width off (s.hostWrite off v)
  | .wait => .next s.hostPoll
  | .reset => .next s.resetCore

/-- Take the oldest input from the queue; while a command is pending this is one of the inputs before its core step. -/
def State.popInput (s : State) (rest : List HostOp) : State :=
  { s with inputs := rest, delay := if s.status.busy then s.delay - 1 else s.delay }

/-- Who takes the next step (R78, R131): the core only while BUSY, after the drawn number of inputs or when none is left. -/
def State.turn (s : State) : Turn :=
  match s.inputs with
  | [] => if s.status.busy then .core else .idle
  | op :: rest => if s.status.busy && s.delay = 0 then .core else .input op (s.popInput rest)

/-- R131: the core step, on the word in CMD, `run` being the meaning of the commands: the command the word encodes, or the
completion of an illegal word (R136). -/
def coreStepOf (run : Instr → State → Host.Outcome State Fault Refusal) (s : State) : Host.Outcome State Fault Refusal :=
  match decode s.cmd with
  | .ok i => run i s
  | .error code => execIllegal code s

/-- One step, `run` being the meaning of the commands. With nothing enabled (no command pending, nothing left to come from
outside) every register holds its value (60_exceptions R282; log 5). -/
def stepOf (run : Instr → State → Host.Outcome State Fault Refusal) (s : State) : Host.Outcome State Fault Refusal :=
  match s.turn with
  | .idle => .next s
  | .core => coreStepOf run s
  | .input op s' => hostStep op s'

end Sys2Proof.Machine
end

