-- ==== Sys2Proof/Machine/Constants.lean ====
section
/-! DEFINITION. The default values of CONST (00_scope R8 to R15, R6), "the values the spec asserts for ve7it/op25" (R7; log 8).
exec runs every command with them. -/

namespace Sys2Proof.Machine

/-- R10: `golay_par(d)`, the 11-bit remainder of `d << 11` modulo 0xC75, then an even overall parity bit. -/
def golayPar (d : BitVec 8) : BitVec 12 :=
  let r : BitVec 11 := (polyRem 0xC75#19 11 8 (d ++ 0#11)).setWidth 11
  let ov := (popcount d + popcount r) % 2 = 1
  r ++ BitVec.ofBool ov

/-- R11: the row code, Hamming (15,11). -/
def h15 : HammingCode where
  checks := [[0, 1, 2, 3, 5, 7, 8, 11], [1, 2, 3, 4, 6, 8, 9, 12], [2, 3, 4, 5, 7, 9, 10, 13], [0, 1, 2, 4, 6, 7, 10, 14]]
  positions := [(0x1, 11), (0x2, 12), (0x4, 13), (0x8, 14), (0x9, 0), (0xB, 1), (0xF, 2), (0x7, 3), (0xE, 4), (0x5, 5),
    (0xA, 6), (0xD, 7), (0x3, 8), (0x6, 9), (0xC, 10)]

/-- R11: the column code, Hamming (13,9). The syndromes 0x9 and 0xB name no position. -/
def h13 : HammingCode where
  checks := [[0, 1, 3, 5, 6, 9], [0, 1, 2, 4, 6, 7, 10], [0, 1, 2, 3, 5, 7, 8, 11], [0, 2, 4, 5, 8, 12]]
  positions := [(0x1, 9), (0x2, 10), (0x4, 11), (0x8, 12), (0xF, 0), (0x7, 1), (0xE, 2), (0x5, 3), (0xA, 4), (0xD, 5),
    (0x3, 6), (0x6, 7), (0xC, 8)]

/-- CONST with the spec's default values. -/
def const : Const where
  maskVlc := 0x969696
  maskTlc := 0x999999
  maskPi := 0x6969
  maskDh := 0xCCCC
  maskCsbk := 0xA5A5
  sync := #v[0x755FD7DF75F7, 0xDFF57D75DF5D, 0x7F7D5DD57DFD, 0xD5D7F77FD757, 0x77D55F7DFD77, 0x5D577F7757FF,
    0xF7FDD5DDFD55, 0x7DFFD5F55D5F, 0xD7557F5FF7F5]
  syncThreshold := 6
  golayPar := golayPar
  stMaxErr := 3
  h15 := h15
  h13 := h13
  interleave := 181
  bptcMaxPasses := 5
  gfPoly := 0x11D
  gfAlpha := 0x02
  rsGen := (0x0E, 0x38, 0x40)
  crcPoly := 0x1021
  crcInit := 0x0000
  crcXor := 0xFFFF

end Sys2Proof.Machine
end

