-- ==== Sys2Proof/Machine/Bptc.lean ====
section
/-! DEFINITION. BPTC (43_bptc R190 to R195). -/

namespace Sys2Proof.Machine

/-- The matrix `M[0..195]` (R191): `M[a]` is bit `a`. -/
abbrev Matrix := BitVec 196

/-- R191: `M[a] = raw<(a * 181) mod 196>`. -/
def deinterleave (k : Const) (raw : BitSeq) : Matrix := packBits 196 fun a => raw (a * k.interleave % 196)

/-- The index in the matrix of bit `j` of row `r` (R192). -/
def rowIdx (r j : Nat) : Nat := 1 + 15 * r + j

/-- The index in the matrix of bit `a` of column `c` (R192). -/
def colIdx (c a : Nat) : Nat := c + 1 + 15 * a

/-- The syndrome of a word `d`: bit `j` is the mismatch of check `j` (R11). -/
def syndrome (h : HammingCode) (d : Nat → Bool) : BitVec 4 := packBits 4 fun j => parityOver (h.checks.getD j []) d

/-- The syndrome of a line (row or column) of the matrix. -/
def lineSyndrome (h : HammingCode) (idx : Nat → Nat) (m : Matrix) : BitVec 4 := syndrome h fun i => m.getLsbD (idx i)

/-- The decoder between two corrections (R194). -/
structure Correction where
  m : Matrix
  flips : Nat
  fixed : Bool
  deriving DecidableEq, Repr

/-- R194: invert the bit of a line that its syndrome names, if it names one. -/
def correctLine (h : HammingCode) (idx : Nat → Nat) (x : Correction) : Correction :=
  match h.positions.lookup (lineSyndrome h idx x.m) with
  | some p => { m := x.m ^^^ bitAt 196 (idx p), flips := x.flips + 1, fixed := true }
  | none => x

/-- R194: the 15 columns. -/
def correctColumns (k : Const) (x : Correction) : Correction :=
  (List.range 15).foldl (fun x c => correctLine k.h13 (colIdx c) x) x

/-- R194: the nine data rows. -/
def correctRows (k : Const) (x : Correction) : Correction :=
  (List.range 9).foldl (fun x r => correctLine k.h15 (rowIdx r) x) x

/-- R194: one pass, the columns first, then the data rows. -/
def correctionPass (k : Const) (x : Correction) : Correction := correctRows k (correctColumns k { x with fixed := false })

/-- R194: the passes, at most `fuel` more, until one fixes nothing; `passes` are already run. -/
def correctionLoop (k : Const) : Nat → Nat → Correction → Correction × Nat
  | 0, passes, x => (x, passes)
  | fuel + 1, passes, x =>
    match correctionPass k x with
    | ⟨m, flips, true⟩ => correctionLoop k fuel (passes + 1) ⟨m, flips, true⟩
    | ⟨m, flips, false⟩ => (⟨m, flips, false⟩, passes + 1)

/-- Every column and every data row checks (R194). -/
def matrixOk (k : Const) (m : Matrix) : Bool :=
  (List.range 15).all (fun c => lineSyndrome k.h13 (colIdx c) m = 0)
    && (List.range 9).all (fun r => lineSyndrome k.h15 (rowIdx r) m = 0)

/-- `INFO_POS[i]` (R192): eight positions of row 0, then eleven of each of the rows 1 to 8. -/
def infoPos (i : Nat) : Nat := if i < 8 then 4 + i else 1 + 15 * ((i - 8) / 11 + 1) + (i - 8) % 11

/-- The information bits of a matrix in transmission order (R192, R195). -/
def matrixInfo (m : Matrix) : BitSeq := fun i => m.getLsbD (infoPos i)

/-- R194: the decoding of a matrix: the corrected matrix with its flips, and the passes run. -/
def bptcDecode (k : Const) (m : Matrix) : Correction × Nat := correctionLoop k k.bptcMaxPasses 0 ⟨m, 0, false⟩

/-- R194: what BPTC writes for a decoding; INFO only on success. DESIGN CHOICE (log 8): with a BPTC_MAX_PASSES above 7, PASSES
holds the passes modulo 8, and above 10, FLIPS may hold the inversions modulo 256, since R37 gives no wider fields; with
the spec's 5 neither wraps (R18). -/
def bptcResult (k : Const) (s : State) (x : Correction) (passes : Nat) : State :=
  let ok := matrixOk k x.m
  let s' := s.setBptcr { flips := BitVec.ofNat 8 x.flips, passes := BitVec.ofNat 3 passes, ok := ok }
  if ok then (s'.setInfo (packInfoBits (matrixInfo x.m))).complete .none else s'.raise .bptcUncorrectable

/-- The matrix BPTC decodes: the burst's block, deinterleaved (R190, R191). -/
def State.matrix (k : Const) (s : State) : Matrix := deinterleave k s.bptcRaw

/-- R194: BPTC with the constants `k`. -/
def bptc (k : Const) (s : State) : State :=
  match bptcDecode k (s.matrix k) with
  | (x, passes) => bptcResult k s x passes

/-- R194: BPTC, with the constants `k` (R7). -/
def execBptcWith (k : Const) (s : State) : Host.Outcome State Fault Refusal := .next (bptc k s)

/-- R194: BPTC, with the default constants. -/
def execBptc (s : State) : Host.Outcome State Fault Refusal := execBptcWith const s

end Sys2Proof.Machine
end

