-- ==== Sys2Proof/Machine/Classify.lean ====
section
/-! DEFINITION. CLASSIFY (41_classify R149 to R151). -/

namespace Sys2Proof.Machine

/-- The nearest pattern so far: its distance and its index. -/
structure BestMatch where
  dist : Nat
  idx : Nat
  deriving DecidableEq, Repr

/-- The loop of R150 over the patterns from index `i` on; strict comparison, so the first minimum wins. -/
def nearestFrom (field : BitVec 48) : List (BitVec 48) → Nat → BestMatch → BestMatch
  | [], _, best => best
  | p :: ps, i, best =>
    nearestFrom field ps (i + 1) (if popcount (field ^^^ p) < best.dist then ⟨popcount (field ^^^ p), i⟩ else best)

/-- The nearest sync pattern (R150): `best_d <- 49; best_i <- 0`, then the nine patterns in order. -/
def nearestSync (k : Const) (field : BitVec 48) : BestMatch := nearestFrom field k.sync.toList 0 ⟨49, 0⟩

/-- CLSR for the best match found (R150): TYPE is its index within the threshold, else 9, UNKNOWN. -/
def clsrOf (k : Const) (b : BestMatch) : Clsr where
  type := if b.dist ≤ k.syncThreshold then BitVec.ofNat 4 b.idx else 9
  dist := BitVec.ofNat 6 b.dist
  idx := BitVec.ofNat 4 b.idx
  ok := b.dist ≤ k.syncThreshold

/-- R150: CLASSIFY with the constants `k`. -/
def classify (k : Const) (s : State) : State :=
  let b := nearestSync k s.syncField
  let s' := s.setClsr (clsrOf k b)
  if b.dist ≤ k.syncThreshold then s'.complete .none else s'.raise .classificationFailure

/-- R150: CLASSIFY, with the constants `k` (R7). -/
def execClassifyWith (k : Const) (s : State) : Host.Outcome State Fault Refusal := .next (classify k s)

/-- R150: CLASSIFY, with the default constants. -/
def execClassify (s : State) : Host.Outcome State Fault Refusal := execClassifyWith const s

end Sys2Proof.Machine
end

