-- ==== Sys2Proof/Machine/Gf.lean ====
section
/-! DEFINITION. Arithmetic of GF(2^8) (00_scope R17) on the field polynomial `poly` and the
primitive element α of CONST.GF (R13). -/

namespace Sys2Proof.Machine

/-- The product of `a` with x (R17): `a << 1`, reduced by the field polynomial where bit 7 was set. -/
def xtime (poly : BitVec 9) (a : Byte) : Byte := (a <<< 1) ^^^ (if a.msb then poly.setWidth 8 else 0)

/-- The product of `a` with x^n. -/
def xtimes (poly : BitVec 9) : Nat → Byte → Byte
  | 0, a => a
  | n + 1, a => xtime poly (xtimes poly n a)

/-- The product of `b` with the terms of `a` below x^n. -/
def gfMulTerms (poly : BitVec 9) (a b : Byte) : Nat → Byte
  | 0 => 0
  | n + 1 => gfMulTerms poly a b n ^^^ (if a.getLsbD n then xtimes poly n b else 0)

/-- `a ⊗ b` (R17): the product of the polynomials reduced by the field polynomial. -/
def gfMul (poly : BitVec 9) (a b : Byte) : Byte := gfMulTerms poly a b 8

/-- `EXP[i] = α^i` (R17). -/
def gfExp (poly : BitVec 9) (alpha : Byte) : Nat → Byte
  | 0 => 1
  | i + 1 => gfMul poly alpha (gfExp poly alpha i)

/-- The first `j` in `i, i+1, ...` with `cur ⊗ α^(j-i) = x`, looking at `fuel` of them. -/
def gfLogFrom (poly : BitVec 9) (alpha x : Byte) : Nat → Byte → Nat → Nat
  | 0, _, i => i
  | fuel + 1, cur, i => if cur = x then i else gfLogFrom poly alpha x fuel (gfMul poly alpha cur) (i + 1)

/-- `LOG[x]` for x ≠ 0 (R17): the inverse of EXP on 1..255. -/
def gfLog (poly : BitVec 9) (alpha x : Byte) : Nat := gfLogFrom poly alpha x 255 1 0

/-- `a ⊘ b` for b ≠ 0 (R17). -/
def gfDiv (poly : BitVec 9) (alpha a b : Byte) : Byte :=
  if a = 0 then 0 else gfExp poly alpha ((gfLog poly alpha a + 255 - gfLog poly alpha b) % 255)

end Sys2Proof.Machine
end

