-- ==== Sys2Proof/Machine/Rsdec.lean ====
section
/-! DEFINITION. RSDEC (44_rs R220 to R225) and the Reed-Solomon parity (R221). -/

namespace Sys2Proof.Machine

/-- One step of the shift register of R221. -/
def rsShift (k : Const) (reg : Byte × Byte × Byte) (m : Byte) : Byte × Byte × Byte :=
  let f := m ^^^ reg.1
  (reg.2.1 ^^^ gfMul k.gfPoly f k.rsGen.1, reg.2.2 ^^^ gfMul k.gfPoly f k.rsGen.2.1, gfMul k.gfPoly f k.rsGen.2.2)

/-- `rs_parity(m)` (R221): `(p0, p1, p2)`, the check bytes b[9], b[10], b[11]. -/
def rsParity (k : Const) (m : List Byte) : Byte × Byte × Byte := m.foldl (rsShift k) (0, 0, 0)

/-- `S_j = C(α^j)` by Horner's rule (R222). -/
def rsSyndrome (k : Const) (j : Nat) (b : List Byte) : Byte :=
  b.foldl (fun acc x => gfMul k.gfPoly acc (gfExp k.gfPoly k.gfAlpha j) ^^^ x) 0

/-- The outcome of `rs_decode` (R223): the codeword, the number of corrected symbols and the corrected index, or failure. -/
inductive RsResult where
  | ok (c : List Byte) (n : Nat) (pos : Option Nat)
  | fail
  deriving DecidableEq, Repr

/-- R223, the single-error case: S1, S2, S3 are all non-zero and consistent. -/
def rsCorrect (k : Const) (b : List Byte) (s1 s2 : Byte) : RsResult :=
  let x := gfDiv k.gfPoly k.gfAlpha s2 s1
  let p := gfLog k.gfPoly k.gfAlpha x
  if p > 11 then .fail
  else .ok (b.modify (11 - p) (fun y => y ^^^ gfDiv k.gfPoly k.gfAlpha s1 x)) 1 (some (11 - p))

/-- `rs_decode(b[0..11])` (R223). -/
def rsDecode (k : Const) (b : List Byte) : RsResult :=
  let s1 := rsSyndrome k 1 b
  let s2 := rsSyndrome k 2 b
  let s3 := rsSyndrome k 3 b
  if s1 = 0 ∧ s2 = 0 ∧ s3 = 0 then .ok b 0 none
  else if s1 = 0 ∨ s2 = 0 ∨ s3 = 0 then .fail
  else if gfMul k.gfPoly s2 s2 ≠ gfMul k.gfPoly s1 s3 then .fail
  else rsCorrect k b s1 s2

/-- XOR the mask into the check bytes: `m[23:16]` into b[9], `m[15:8]` into b[10], `m[7:0]` into b[11] (R224). -/
def maskChecks (m : BitVec 24) (b : List Byte) : List Byte :=
  List.zipWith (fun x y => x ^^^ y) b
    (List.replicate 9 0 ++ [m.extractLsb' 16 8, m.extractLsb' 8 8, m.extractLsb' 0 8])

/-- R224: what RSDEC writes for a decoding, `m` being the mask to restore; INFO only on success. -/
def rsdecResult (m : BitVec 24) (s : State) : RsResult → State
  | .ok c n pos =>
    ((s.setInfo (packInfoBytes (maskChecks m c))).setRsr
      { ncorr := BitVec.ofNat 2 n, pos := BitVec.ofNat 4 (pos.getD 0xF), ok := true }).complete .none
  | .fail => (s.setRsr { ncorr := 3, pos := 0xF, ok := false }).raise .rsUncorrectable

/-- R224: RSDEC with the constants `k` and the mask `m`. -/
def rsdec (k : Const) (m : BitVec 24) (s : State) : State := rsdecResult m s (rsDecode k (maskChecks m s.infoBytes))

/-- R224: RSDEC.NONE, no mask, with the constants `k` (R7). -/
def execRsdecNoneWith (k : Const) (s : State) : Host.Outcome State Fault Refusal := .next (rsdec k 0 s)

/-- R224: RSDEC.NONE, no mask, with the default constants. -/
def execRsdecNone (s : State) : Host.Outcome State Fault Refusal := execRsdecNoneWith const s

/-- R224: RSDEC.VLC, with the constants `k` (R7). -/
def execRsdecVlcWith (k : Const) (s : State) : Host.Outcome State Fault Refusal := .next (rsdec k k.maskVlc s)

/-- R224: RSDEC.VLC, with the default constants. -/
def execRsdecVlc (s : State) : Host.Outcome State Fault Refusal := execRsdecVlcWith const s

/-- R224: RSDEC.TLC, with the constants `k` (R7). -/
def execRsdecTlcWith (k : Const) (s : State) : Host.Outcome State Fault Refusal := .next (rsdec k k.maskTlc s)

/-- R224: RSDEC.TLC, with the default constants. -/
def execRsdecTlc (s : State) : Host.Outcome State Fault Refusal := execRsdecTlcWith const s

end Sys2Proof.Machine
end

