-- ==== Sys2Proof/Machine/Crcchk.lean ====
section
/-! DEFINITION. CRCCHK (45_crc R250 to R254). -/

namespace Sys2Proof.Machine

/-- One bit into the CRC register (R250). -/
def crcShift (k : Const) (reg : BitVec 16) (x : Bool) : BitVec 16 :=
  if (reg.msb ^^ x) then (reg <<< 1) ^^^ k.crcPoly else reg <<< 1

/-- The CRC register after `x<0..n-1>` (R250). -/
def crcReg (k : Const) (x : BitSeq) : Nat → BitVec 16
  | 0 => k.crcInit
  | n + 1 => crcShift k (crcReg k x n) (x n)

/-- `crc16(x<0..n-1>)` (R250), with the final complement. -/
def crc16 (k : Const) (x : BitSeq) (n : Nat) : BitVec 16 := crcReg k x n ^^^ k.crcXor

/-- `check24(m[0..8])` (R251; 90_conflicts C1). -/
def check24 (k : Const) (m : List Byte) : BitVec 24 :=
  match rsParity k m with
  | (p0, p1, p2) => p0 ++ p1 ++ p2

/-- R252: CRCR and the completion for a computed and a transmitted check. -/
def crcchkResult (s : State) (computed recv : BitVec 24) : State :=
  let s' := s.setCrcr { computed := computed, ok := computed = recv }
  if computed = recv then s'.complete .none else s'.raise .crcMismatch

/-- R252, the 24-bit kinds: data bytes 0 to 8, check bits 72 to 95. -/
def crcchk24 (k : Const) (m : BitVec 24) (s : State) : State :=
  crcchkResult s (check24 k (s.infoBytes.take 9) ^^^ m) (seqInt 24 s.infoBit 72)

/-- R252, the 16-bit kinds: data bits 0 to 79, check bits 80 to 95. -/
def crcchk16 (k : Const) (m : BitVec 16) (s : State) : State :=
  crcchkResult s ((crc16 k s.infoBit 80 ^^^ m).setWidth 24) ((seqInt 16 s.infoBit 80).setWidth 24)

/-- R252: CRCCHK.VLC, with the constants `k` (R7). -/
def execCrcchkVlcWith (k : Const) (s : State) : Host.Outcome State Fault Refusal := .next (crcchk24 k k.maskVlc s)

/-- R252: CRCCHK.VLC, with the default constants. -/
def execCrcchkVlc (s : State) : Host.Outcome State Fault Refusal := execCrcchkVlcWith const s

/-- R252: CRCCHK.TLC, with the constants `k` (R7). -/
def execCrcchkTlcWith (k : Const) (s : State) : Host.Outcome State Fault Refusal := .next (crcchk24 k k.maskTlc s)

/-- R252: CRCCHK.TLC, with the default constants. -/
def execCrcchkTlc (s : State) : Host.Outcome State Fault Refusal := execCrcchkTlcWith const s

/-- R252: CRCCHK.PI, with the constants `k` (R7). -/
def execCrcchkPiWith (k : Const) (s : State) : Host.Outcome State Fault Refusal := .next (crcchk16 k k.maskPi s)

/-- R252: CRCCHK.PI, with the default constants. -/
def execCrcchkPi (s : State) : Host.Outcome State Fault Refusal := execCrcchkPiWith const s

/-- R252: CRCCHK.DH, with the constants `k` (R7). -/
def execCrcchkDhWith (k : Const) (s : State) : Host.Outcome State Fault Refusal := .next (crcchk16 k k.maskDh s)

/-- R252: CRCCHK.DH, with the default constants. -/
def execCrcchkDh (s : State) : Host.Outcome State Fault Refusal := execCrcchkDhWith const s

/-- R252: CRCCHK.CSBK, with the constants `k` (R7). -/
def execCrcchkCsbkWith (k : Const) (s : State) : Host.Outcome State Fault Refusal := .next (crcchk16 k k.maskCsbk s)

/-- R252: CRCCHK.CSBK, with the default constants. -/
def execCrcchkCsbk (s : State) : Host.Outcome State Fault Refusal := execCrcchkCsbkWith const s

end Sys2Proof.Machine
end

