-- ==== Sys2Proof/Machine/Slottype.lean ====
section
/-! DEFINITION. SLOTTYPE (42_slottype R170 to R173). -/

namespace Sys2Proof.Machine

/-- The outcome of `st_decode` (R172): an information word with the number of corrected bits, or the smallest distance. -/
inductive StResult where
  | ok (d : BitVec 8) (errors : Nat)
  | fail (dist : Nat)
  deriving DecidableEq, Repr

/-- `golay_cw(d) = (d << 12) | golay_par(d)` (R10). -/
def golayCw (k : Const) (d : BitVec 8) : BitVec 20 := d ++ k.golayPar d

/-- `dist_d`, the distance of a slot-type word from the codeword of `d` (R172). -/
def stDist (k : Const) (w : BitVec 20) (d : Nat) : Nat := popcount (w ^^^ golayCw k (BitVec.ofNat 8 d))

/-- `D`, the smallest distance (R172). -/
def stMinDist (k : Const) (w : BitVec 20) : Nat := (List.range 256).foldl (fun m d => min m (stDist k w d)) (stDist k w 0)

/-- `S`, the information words at distance `D` (R172). -/
def stNearest (k : Const) (w : BitVec 20) (D : Nat) : List Nat := (List.range 256).filter fun d => stDist k w d = D

/-- `st_decode(w)` (R172): accepted within ST_MAX_ERR of a unique nearest codeword. -/
def stDecode (k : Const) (w : BitVec 20) : StResult :=
  match stNearest k w (stMinDist k w) with
  | [d] => if stMinDist k w ≤ k.stMaxErr then .ok (BitVec.ofNat 8 d) (stMinDist k w) else .fail (stMinDist k w)
  | _ => .fail (stMinDist k w)

/-- R171: what SLOTTYPE does with the decoded word. SLOT_TYPE_ERROR is decided first; the filter sees only a decoded colour
code, the high nibble of `d` (R173). DESIGN CHOICE (log 8): with an ST_MAX_ERR above 7, for which R36 gives NERR no width, NERR
holds the number of corrected bits modulo 8; with the spec's 3 it never wraps (R18). -/
def slottypeResult (s : State) : StResult → State
  | .fail dist => (s.setStr { Str.reset with nerr := BitVec.ofNat 3 (min dist 7) }).raise .slotTypeError
  | .ok d errors =>
    let str : Str :=
      { cc := d.extractLsb' 4 4, dt := d.extractLsb' 0 4, nerr := BitVec.ofNat 3 errors, ok := false, ccm := false }
    if s.ccfilt.en ∧ d.extractLsb' 4 4 ≠ s.ccfilt.ecc then (s.setStr { str with ccm := true }).raise .ccMismatch
    else (s.setStr { str with ok := true }).complete .none

/-- R171: SLOTTYPE with the constants `k`. -/
def slottype (k : Const) (s : State) : State := slottypeResult s (stDecode k s.slotTypeWord)

/-- R171: SLOTTYPE, with the constants `k` (R7). -/
def execSlottypeWith (k : Const) (s : State) : Host.Outcome State Fault Refusal := .next (slottype k s)

/-- R171: SLOTTYPE, with the default constants. -/
def execSlottype (s : State) : Host.Outcome State Fault Refusal := execSlottypeWith const s

end Sys2Proof.Machine
end

