-- ==== Sys2Proof/Machine/Dispatch.lean ====
section
/-! DEFINITION. The meaning of each command: its rule and its completion, as one step (40_control R131). -/

namespace Sys2Proof.Machine

def exec (i : Instr) (s : State) : Host.Outcome State Fault Refusal :=
  match i with
  | .nop => Sys2Proof.Machine.execNop s
  | .classify => Sys2Proof.Machine.execClassify s
  | .slottype => Sys2Proof.Machine.execSlottype s
  | .bptc => Sys2Proof.Machine.execBptc s
  | .rsdecNone => Sys2Proof.Machine.execRsdecNone s
  | .rsdecVlc => Sys2Proof.Machine.execRsdecVlc s
  | .rsdecTlc => Sys2Proof.Machine.execRsdecTlc s
  | .crcchkVlc => Sys2Proof.Machine.execCrcchkVlc s
  | .crcchkTlc => Sys2Proof.Machine.execCrcchkTlc s
  | .crcchkPi => Sys2Proof.Machine.execCrcchkPi s
  | .crcchkDh => Sys2Proof.Machine.execCrcchkDh s
  | .crcchkCsbk => Sys2Proof.Machine.execCrcchkCsbk s
  | .clear => Sys2Proof.Machine.execClear s

end Sys2Proof.Machine
end

