-- ==== Sys2Proof/Machine/Step.lean ====
section
/-! DEFINITION. One step of the machine: the agent whose turn it is takes it (20_memory R78, 40_control R131). -/

namespace Sys2Proof.Machine

/-- One step of the machine with the default constants. -/
def step (s : State) : Host.Outcome State Fault Refusal := stepOf exec s

/-- `s` with the command word `w` issued and its core step next (R130; log 5): the core fetches nothing, so this stands for
the host's write of CMD. DESIGN CHOICE (log 5): it issues the word on a state with BUSY = 1 too, in place of the pending
command, where a host's write of CMD is dropped (R74, R283; `State.hostWrite`); only with BUSY = 0 does it stand for one. -/
def State.withFetchWord (s : State) (_nbits w : Nat) : State := s.issueNow (BitVec.ofNat 32 w)

end Sys2Proof.Machine
end

