-- ==== Sys2Proof/Machine/Configured.lean ====
section
/-! DEFINITION. The machine with any protocol constants (00_scope R7: "A model takes `CONST` as an argument"). exec and step
are this machine with the spec's default CONST (log 8). -/

namespace Sys2Proof.Machine

/-- The meaning of each command with the constants `k`. -/
def execWith (k : Const) (i : Instr) (s : State) : Host.Outcome State Fault Refusal :=
  match i with
  | .nop => execNop s
  | .classify => execClassifyWith k s
  | .slottype => execSlottypeWith k s
  | .bptc => execBptcWith k s
  | .rsdecNone => execRsdecNoneWith k s
  | .rsdecVlc => execRsdecVlcWith k s
  | .rsdecTlc => execRsdecTlcWith k s
  | .crcchkVlc => execCrcchkVlcWith k s
  | .crcchkTlc => execCrcchkTlcWith k s
  | .crcchkPi => execCrcchkPiWith k s
  | .crcchkDh => execCrcchkDhWith k s
  | .crcchkCsbk => execCrcchkCsbkWith k s
  | .clear => execClear s

/-- One step of the machine with the constants `k`. -/
def stepWith (k : Const) (s : State) : Host.Outcome State Fault Refusal := stepOf (execWith k) s

/-- The whole machine with the constants `k`. Reset does not depend on them (R300). -/
def coreWith (k : Const) : Host.Core where
  State := State
  Fault := Fault
  Refusal := Refusal
  step := stepWith k
  reset := State.reset

end Sys2Proof.Machine
end

