-- ==== Sys2Proof/Machine/Platform.lean ====
section
/-! DEFINITION. Several core instances on one platform (60_exceptions R280, 20_memory R83, R70; log 9): one per logical
channel, each with its own window at its own base address (CORE_BASE), its own registers, its own reset and its own free
values. -/

namespace Sys2Proof.Machine

/-- A core instance and the platform address of its window. -/
structure Instance where
  base : Nat
  core : State
  deriving DecidableEq, Repr

/-- The platform's instances: a first one and any number of others, so that N_INSTANCES ≥ 1 (R280). -/
structure Platform where
  first : Instance
  others : List Instance
  deriving DecidableEq, Repr

/-- All the instances, the first at place 0. -/
def Platform.instances (p : Platform) : List Instance := p.first :: p.others

/-- N_INSTANCES (R280). -/
def Platform.count (p : Platform) : Nat := p.instances.length

/-- The platform with `f` done to every instance. -/
def Platform.map (f : Instance → Instance) (p : Platform) : Platform := ⟨f p.first, p.others.map f⟩

/-- The platform with instance `n` replaced by `x`. -/
def Platform.setAt (p : Platform) (x : Instance) : Nat → Platform
  | 0 => { p with first := x }
  | n + 1 => { p with others := p.others.set n x }

/-- The windows share no address (R83). -/
abbrev Platform.Disjoint (p : Platform) : Prop :=
  p.instances.Pairwise fun x y => x.base + 0x100 ≤ y.base ∨ y.base + 0x100 ≤ x.base

/-- A platform address lies in the instance's window (R70). -/
def Instance.holds (x : Instance) (addr : Nat) : Bool := x.base ≤ addr && addr < x.base + 0x100

/-- One more input for this instance, after those it already has. -/
def Instance.post (x : Instance) (op : HostOp) : Instance := { x with core := { x.core with inputs := x.core.inputs ++ [op] } }

/-- A host read at a platform address reaches the instance whose window holds the address, at its offset there. -/
def Platform.postRead (p : Platform) (width addr : Nat) : Platform :=
  p.map fun x => if x.holds addr then x.post (.read width (addr - x.base)) else x

/-- A host write at a platform address. -/
def Platform.postWrite (p : Platform) (width addr : Nat) (v : Word) : Platform :=
  p.map fun x => if x.holds addr then x.post (.write width (addr - x.base) v) else x

/-- The reset input of instance `n` (R300); each instance has its own (R280: they "start independently from their own
reset"). -/
def Platform.postReset (p : Platform) (n : Nat) : Platform :=
  match p.instances[n]? with
  | none => p
  | some x => p.setAt (x.post .reset) n

/-- Instance `n` takes one step, drawing from the sequence of free values `n`, so that no two instances share a draw (R280:
they "share nothing"). Which instance steps next is the platform's free choice (R280: they "send no signal to one
another"). DESIGN CHOICE (log 9): the spec does not say whether instances may have different CONST; here instance `m` has
the constants `k m`, which may differ. -/
def Platform.stepAtWith (k : Nat → Const) (p : Platform) (n : Nat) : Host.Outcome Platform Fault Refusal :=
  match p.instances[n]? with
  | none => .next p
  | some x =>
    match stepWith (k n) (x.core.setStream n) with
    | .next s => .next (p.setAt { x with core := s } n)
    | .fault r => .fault r
    | .refused r => .refused r

/-- Instance `n` takes one step, every instance having the spec's default CONST (DESIGN CHOICE, log 8, 9). -/
def Platform.stepAt (p : Platform) (n : Nat) : Host.Outcome Platform Fault Refusal := p.stepAtWith (fun _ => const) n

end Sys2Proof.Machine
end

