-- ==== Sys2Proof/Safety.lean ====
section
/-! DEFINITION. The terms claims use: the legal register values (10_state R33 to R38, 93_implementation_defined U6), when it
is the core's turn, the codebooks of the rules, and what two states share. -/

namespace Sys2Proof.Machine

/-- Legal STATUS (R33, R45, R130, R131): never BUSY and DONE together; no OK and no ERR before completion; after it, OK = 1
exactly when ERR = 0. -/
abbrev Status.Legal (f : Status) : Prop :=
  (f.busy → f.done = false) ∧ (f.done = false → f.ok = false ∧ f.err = .none) ∧ (f.done → (f.ok ↔ f.err = .none))

/-- Legal CLSR (R35, R150): TYPE is 0..9, DIST 0..48, IDX 0..8; OK exactly when TYPE is not UNKNOWN, and then TYPE = IDX
and DIST is within the threshold. -/
abbrev Clsr.Legal (c : Clsr) : Prop :=
  c.type.toNat ≤ 9 ∧ c.dist.toNat ≤ 48 ∧ c.idx.toNat ≤ 8 ∧ (c.ok ↔ c.type ≠ 9) ∧
    (c.ok → c.type = c.idx ∧ c.dist.toNat ≤ 6)

/-- Legal STR (R36, R171): never OK and CCM together; a decoded word has at most 3 corrected bits; CC and DT are 0 when
nothing was decoded. -/
abbrev Str.Legal (r : Str) : Prop :=
  ¬(r.ok ∧ r.ccm) ∧ (r.ok ∨ r.ccm → r.nerr.toNat ≤ 3) ∧ (¬(r.ok ∨ r.ccm) → r.cc = 0 ∧ r.dt = 0)

/-- Legal BPTCR (R37, R194): at most 5 passes of at most 24 inversions each, so FLIPS is 0..120; OK only after a pass. -/
abbrev Bptcr.Legal (r : Bptcr) : Prop :=
  r.passes.toNat ≤ 5 ∧ r.flips.toNat ≤ 24 * r.passes.toNat ∧ (r.ok → 1 ≤ r.passes.toNat)

/-- Legal RSR (R38, U6): NCORR is never 2; POS is 0..11 when one symbol was corrected and 0xF otherwise; NCORR = 3 is no
success. -/
abbrev Rsr.Legal (r : Rsr) : Prop :=
  r.ncorr ≠ 2 ∧ (r.ncorr = 1 → r.pos.toNat ≤ 11) ∧ (r.ncorr ≠ 1 → r.pos = 0xF) ∧ (r.ok → r.ncorr ≠ 3)

/-- Every register holds a legal value. -/
abbrev State.Legal (s : State) : Prop :=
  s.status.Legal ∧ s.clsr.Legal ∧ s.str.Legal ∧ s.bptcr.Legal ∧ s.rsr.Legal

/-- It is the core's turn: a command is pending, and no input comes before its core step (R78, R131; log 2). -/
abbrev State.CoreTurn (s : State) : Prop := s.status.busy ∧ (s.inputs = [] ∨ s.delay = 0)

/-- It is the turn of the agent outside the core, with `op` next (R78; log 1, 2). -/
abbrev State.HostTurn (s : State) (op : HostOp) (rest : List HostOp) : Prop :=
  s.inputs = op :: rest ∧ ¬(s.status.busy ∧ s.delay = 0)

/-- The offsets that the address map of R71 calls unmapped, among the multiples of 4 inside the window. -/
abbrev Unmapped (off : Nat) : Prop :=
  (0x024 ≤ off ∧ off ≤ 0x03C) ∨ (0x064 ≤ off ∧ off ≤ 0x07C) ∨ (0x08C ≤ off ∧ off ≤ 0x0FC)

/-- The two states have the same fields of the model's own (log 1 to 4): what is to come from outside, what was read. -/
abbrev State.SameModelFields (s t : State) : Prop :=
  s.inputs = t.inputs ∧ s.reads = t.reads ∧ s.delay = t.delay ∧ s.issues = t.issues ∧ s.draws = t.draws ∧
    s.stream = t.stream

/-- The two states agree on everything a command reads (R46, R272): CMD, BURST, INFO and CCFILT. -/
abbrev State.SameOperands (s t : State) : Prop :=
  s.cmd = t.cmd ∧ s.burst = t.burst ∧ s.burst8 = t.burst8 ∧ s.info = t.info ∧ s.ccfilt = t.ccfilt

/-- A 12-byte word of the RS(12,9) code: its three syndromes are zero (R221, R222). -/
abbrev RsCodeword (k : Const) (b : List Byte) : Prop := b.length = 12 ∧ ∀ j ∈ [1, 2, 3], rsSyndrome k j b = 0

/-- `b` with the error value `e` added at byte `i` (R224). -/
def addByteError (b : List Byte) (i : Nat) (e : Byte) : List Byte := b.modify i (fun x => x ^^^ e)

/-- The 13 legal command words, as R105 lists them. -/
def legalWords : List (Instr × Word) :=
  [(.nop, 0x00000000), (.classify, 0x00000001), (.slottype, 0x00000002), (.bptc, 0x00000003), (.rsdecNone, 0x00000004),
   (.rsdecVlc, 0x00000014), (.rsdecTlc, 0x00000024), (.crcchkVlc, 0x00000015), (.crcchkTlc, 0x00000025),
   (.crcchkPi, 0x00000035), (.crcchkDh, 0x00000045), (.crcchkCsbk, 0x00000055), (.clear, 0x00000006)]

/-- The RSDEC commands with their masks (R103, R224). -/
def rsdecMasks : List (Instr × BitVec 24) := [(.rsdecNone, 0), (.rsdecVlc, 0x969696), (.rsdecTlc, 0x999999)]

/-- The 24-bit CRCCHK commands with their masks (R103, R252). -/
def crcchk24Masks : List (Instr × BitVec 24) := [(.crcchkVlc, 0x969696), (.crcchkTlc, 0x999999)]

/-- The 16-bit CRCCHK commands with their masks (R103, R252). -/
def crcchk16Masks : List (Instr × BitVec 16) := [(.crcchkPi, 0x6969), (.crcchkDh, 0xCCCC), (.crcchkCsbk, 0xA5A5)]

/-- The errors each command may raise (R270). -/
def errorsOf : Instr → List ErrorCode
  | .nop => []
  | .classify => [.classificationFailure]
  | .slottype => [.slotTypeError, .ccMismatch]
  | .bptc => [.bptcUncorrectable]
  | .rsdecNone => [.rsUncorrectable]
  | .rsdecVlc => [.rsUncorrectable]
  | .rsdecTlc => [.rsUncorrectable]
  | .crcchkVlc => [.crcMismatch]
  | .crcchkTlc => [.crcMismatch]
  | .crcchkPi => [.crcMismatch]
  | .crcchkDh => [.crcMismatch]
  | .crcchkCsbk => [.crcMismatch]
  | .clear => []

/-- The offsets of the registers each command may write (R46; R71). -/
def writtenOffsets : Instr → List Nat
  | .nop => [0x008]
  | .classify => [0x008, 0x010]
  | .slottype => [0x008, 0x014]
  | .bptc => [0x008, 0x018, 0x080, 0x084, 0x088]
  | .rsdecNone => [0x008, 0x01C, 0x080, 0x084, 0x088]
  | .rsdecVlc => [0x008, 0x01C, 0x080, 0x084, 0x088]
  | .rsdecTlc => [0x008, 0x01C, 0x080, 0x084, 0x088]
  | .crcchkVlc => [0x008, 0x020]
  | .crcchkTlc => [0x008, 0x020]
  | .crcchkPi => [0x008, 0x020]
  | .crcchkDh => [0x008, 0x020]
  | .crcchkCsbk => [0x008, 0x020]
  | .clear => [0x008, 0x010, 0x014, 0x018, 0x01C, 0x020]

/-- STATUS at the end of a command (R131): BUSY = 0, DONE = 1, ERR as given, OK = 1 exactly when there is none, LASTOP =
CMD[3:0], WDROP as given. -/
def Status.after (cmd : Word) (wdrop : Bool) (err : ErrorCode) : Status :=
  ⟨false, true, err = .none, err, cmd.extractLsb' 0 4, wdrop⟩

/-- The distance of a state's slot-type word from the codeword of `d` (R172). -/
def State.slotDistance (s : State) (d : BitVec 8) : Nat := popcount (s.slotTypeWord ^^^ golayCw const d)

/-- The distance of a state's sync field from pattern `i` (R150). -/
def State.syncDistance (s : State) (i : Fin 9) : Nat := popcount (s.syncField ^^^ const.sync[i])

/-- The table of R152: the distance of pattern `i` from pattern `j`. -/
def syncDistanceTable : List (List Nat) :=
  [[0, 24, 12, 12, 12, 12, 12, 12, 12], [24, 0, 12, 12, 12, 12, 12, 12, 12], [12, 12, 0, 24, 12, 14, 10, 10, 14],
   [12, 12, 24, 0, 12, 10, 14, 14, 10], [12, 12, 12, 12, 0, 14, 10, 14, 10], [12, 12, 14, 10, 14, 0, 24, 14, 10],
   [12, 12, 10, 14, 10, 24, 0, 10, 14], [12, 12, 10, 14, 14, 14, 10, 0, 24], [12, 12, 14, 10, 10, 10, 14, 24, 0]]

/-- `INFO_POS`, row by row as R192 lists it: `[4..11, 16..26, 31..41, ..., 121..131]`. -/
def infoPositions : List Nat :=
  [4, 5, 6, 7, 8, 9, 10, 11] ++
  [16, 17, 18, 19, 20, 21, 22, 23, 24, 25, 26] ++
  [31, 32, 33, 34, 35, 36, 37, 38, 39, 40, 41] ++
  [46, 47, 48, 49, 50, 51, 52, 53, 54, 55, 56] ++
  [61, 62, 63, 64, 65, 66, 67, 68, 69, 70, 71] ++
  [76, 77, 78, 79, 80, 81, 82, 83, 84, 85, 86] ++
  [91, 92, 93, 94, 95, 96, 97, 98, 99, 100, 101] ++
  [106, 107, 108, 109, 110, 111, 112, 113, 114, 115, 116] ++
  [121, 122, 123, 124, 125, 126, 127, 128, 129, 130, 131]

/-- The information bits of a state are those of the matrix `M` at the positions R192 lists (R194, R195). -/
abbrev State.InfoIs (s : State) (M : Matrix) : Prop := ∀ k < 96, s.infoBit k = M.getLsbD (infoPositions.getD k 0)

/-- The matrix bits of column `c` (R192). -/
def columnBits (c : Nat) : List Nat := (List.range 13).map (colIdx c)

/-- At most one bit of `e` is set in column `c`. -/
abbrev AtMostOneInColumn (e : Matrix) (c : Nat) : Prop := ((columnBits c).filter fun i => e.getLsbD i).length ≤ 1

end Sys2Proof.Machine
end

