-- ==== Sys2Proof/Certificates/Slice0/Obligations.lean ====
section
/-! DEFINITION. The statements for the provers. Each docstring cites the rules of spec/ it rests on. -/

open Sys2Proof Sys2Proof.Machine

/-! ### Encoding (30_encoding) -/

/-- The words of R105 and some illegal words of 95_test_vectors V-CTL-2 to V-CTL-6, written out. -/
def Obligations.SampleWordsDecode : Prop :=
  decode 0x00000000 = .ok .nop ∧ decode 0x00000001 = .ok .classify ∧ decode 0x00000002 = .ok .slottype ∧
  decode 0x00000003 = .ok .bptc ∧ decode 0x00000014 = .ok .rsdecVlc ∧ decode 0x00000055 = .ok .crcchkCsbk ∧
  decode 0x00000006 = .ok .clear ∧ decode 0x00000007 = .error .illegalOpcode ∧
  decode 0x00000013 = .error .illegalSelector ∧ decode 0x00000065 = .error .illegalSelector ∧
  decode 0x00000005 = .error .illegalSelector ∧ decode 0x00000101 = .error .illegalOpcode

/-- R105: the legal words are exactly the 13 listed, over all 2^32 words. -/
def Obligations.DecodeAcceptsExactlyTheLegalWords : Prop :=
  ∀ (w : Word) (i : Instr), decode w = .ok i ↔ (i, w) ∈ legalWords

/-- R101 to R105: decode and encode agree in both directions, for every command and every word. -/
def Obligations.DecodeEncodeAgree : Prop :=
  ∀ (w : Word) (i : Instr), decode w = .ok i ↔ w = encode i

/-- R104, R273: which error an illegal word raises. RSV is looked at first, then the opcode, then the selector. -/
def Obligations.IllegalWordErrorCode : Prop :=
  ∀ (w : Word) (code : ErrorCode), decode w = .error code ↔
    (code = .illegalOpcode ∧ (w.extractLsb' 8 24 ≠ 0 ∨ 6 < (w.extractLsb' 0 4).toNat)) ∨
    (code = .illegalSelector ∧ w.extractLsb' 8 24 = 0 ∧ (w.extractLsb' 0 4).toNat ≤ 6 ∧
      (commandFields w).selLegal = false)

/-! ### The step, issue and completion (40_control, 20_memory R78) -/

/-- R131: at the core's turn the step runs the command that CMD encodes. That it is the core's turn when no input is left is the
model's choice (log 2). The word placed by `withFetchWord` is the next command to run: that it stands for a write of CMD,
with the delay 0 and also where BUSY = 1, is the model's choice (log 5). -/
def Obligations.StepRunsTheDecodedCommand : Prop :=
  (∀ (s : State) (i : Instr), s.CoreTurn → decode s.cmd = .ok i → step s = exec i s) ∧
  (∀ (s : State) (i : Instr), step (s.withFetchWord 32 (encode i).toNat) = exec i (s.withFetchWord 32 (encode i).toNat))

/-- R78, R131: outside the core's turn the step is that of the agent outside, on the oldest input; and with nothing pending
and nothing to come every register holds its value (R282; the repeated state is the model's choice, log 5). -/
def Obligations.StepRunsTheNextInput : Prop :=
  (∀ (s : State) (op : HostOp) (rest : List HostOp), s.HostTurn op rest → step s = hostStep op (s.popInput rest)) ∧
  (∀ s : State, s.status.busy = false → s.inputs = [] → step s = .next s)

/-- R130: a write of CMD while BUSY = 0 stores the word and issues it, whatever the word; nothing else of the registers
changes. -/
def Obligations.CmdWriteIssues : Prop :=
  ∀ (s : State) (v : Word), s.status.busy = false → ∃ t, hostStep (.write 4 0x004 v) s = .next t ∧
    t = { s with cmd := v, status := ⟨true, false, false, .none, s.status.lastop, s.status.wdrop⟩,
                 delay := t.delay, issues := t.issues }

/-- R131: every command completes, with no error and OK = 1 or with exactly one error and OK = 0; LASTOP is CMD[3:0], and
no command but CLEAR touches WDROP. R7: so it is with any constants `k`, and exec and step are the machine with the default
ones. -/
def Obligations.EveryCommandCompletes : Prop :=
  (∀ (i : Instr) (s : State), ∃ t, exec i s = .next t ∧ t.status.busy = false ∧ t.status.done = true ∧
    (t.status.ok = true ↔ t.status.err = .none) ∧ t.status.lastop = s.cmd.extractLsb' 0 4 ∧
    (i ≠ .clear → t.status.wdrop = s.status.wdrop)) ∧
  (∀ (k : Const) (i : Instr) (s : State), ∃ t, execWith k i s = .next t ∧ t.status.busy = false ∧
    t.status.done = true ∧ (t.status.ok = true ↔ t.status.err = .none) ∧
    t.status.lastop = s.cmd.extractLsb' 0 4 ∧ (i ≠ .clear → t.status.wdrop = s.status.wdrop)) ∧
  (∀ (i : Instr) (s : State), exec i s = execWith const i s ∧ step s = stepWith const s)

/-- R270: each command raises only the errors the table names for it. -/
def Obligations.ErrorsComeFromTheirCommand : Prop :=
  ∀ (i : Instr) (s t : State), exec i s = .next t → t.status.err = .none ∨ t.status.err ∈ errorsOf i

/-- R134: NOP does nothing but complete; the only word that is a NOP is 0, and every other word with OP = 0 is illegal. -/
def Obligations.NopOnlyCompletes : Prop :=
  (∀ s : State, exec .nop s = .next { s with status := .after s.cmd s.status.wdrop .none }) ∧
  (∀ s : State, s.CoreTurn → s.cmd = 0x00000000 →
    step s = .next { s with status := ⟨false, true, true, .none, 0, s.status.wdrop⟩ }) ∧
  (∀ w : Word, decode w = .ok .nop ↔ w = 0x00000000) ∧
  (∀ w : Word, w.extractLsb' 0 4 = 0 → w ≠ 0x00000000 → ∃ code, decode w = .error code)

/-- R135: CLEAR writes the result registers and WDROP to their reset values and completes; nothing else changes. -/
def Obligations.ClearResetsTheResults : Prop :=
  (∀ s : State, exec .clear s = .next { s with
      clsr := ⟨9, 0, 0, false⟩, str := ⟨0, 0, 0, false, false⟩,
      bptcr := ⟨0, 0, false⟩, rsr := ⟨0, 0xF, false⟩, crcr := ⟨0, false⟩, status := .after s.cmd false .none }) ∧
  (∀ s t : State, exec .clear s = .next t → t.clsr.word = 0x00000009 ∧ t.str.word = 0x00000000 ∧
    t.bptcr.word = 0x00000000 ∧ t.rsr.word = 0x00000F00 ∧ t.crcr.word = 0x00000000 ∧
    (s.cmd = 0x00000006 → t.status.word = 0x00000606)) ∧
  (∀ w : Word, decode w = .ok .clear ↔ w = 0x00000006)

/-- R136: an illegal word, that is one not in the list of R105, changes only STATUS, with the code of R104 (7 or 8). -/
def Obligations.IllegalWordChangesOnlyStatus : Prop :=
  ErrorCode.illegalOpcode.code = 7 ∧ ErrorCode.illegalSelector.code = 8 ∧
  (∀ w : Word, (∃ code, decode w = .error code) ↔ ∀ i : Instr, (i, w) ∉ legalWords) ∧
  ∀ (s : State) (code : ErrorCode), s.CoreTurn → decode s.cmd = .error code →
    step s = .next { s with status := ⟨false, true, false, code, s.cmd.extractLsb' 0 4, s.status.wdrop⟩ } ∧
    (code = .illegalOpcode ∨ code = .illegalSelector) ∧ (s.cmd.extractLsb' 8 24 ≠ 0 → code = .illegalOpcode) ∧
    (code = .illegalOpcode ↔ s.cmd.extractLsb' 8 24 ≠ 0 ∨ 7 ≤ (s.cmd.extractLsb' 0 4).toNat)

/-- R81, R74: while a command is pending nothing from outside but a reset changes a register other than WDROP: the operands
the command sees are those at its issue. -/
def Obligations.RegistersHeldWhileBusy : Prop :=
  ∀ (s t : State) (op : HostOp) (rest : List HostOp), s.status.busy = true → s.HostTurn op rest → op ≠ .reset →
    step s = .next t →
    t = { s with status := { s.status with wdrop := t.status.wdrop },
                 inputs := t.inputs, reads := t.reads, delay := t.delay, draws := t.draws }

/-- R308, R78, R131: weak fairness, as the model has it (log 2): a pending command executes after at most `delay` inputs,
unless one of them is a reset or an access the core does not define; it sees its operands unchanged (R81), and it
completes. -/
def Obligations.PendingCommandCompletes : Prop :=
  ∀ s : State, s.status.busy = true → (∀ op ∈ s.inputs, op.wellFormed = true ∧ op ≠ .reset) →
    ∃ (n : Nat) (t u : State), n ≤ s.delay ∧
      (Host.Core.run Sys2Proof.core n s : Host.Outcome State Fault Refusal) = .next t ∧
      s.SameOperands t ∧ t.CoreTurn ∧ step t = .next u ∧ u.status.busy = false ∧ u.status.done = true

/-- R40, R42, R46: at the core's turn, whatever the word in CMD, the step keeps CMD, BURST, CCFILT and what is outside. -/
def Obligations.CoreStepKeepsOperandsAndInputs : Prop :=
  ∀ s t : State, s.CoreTurn → step s = .next t →
    t.cmd = s.cmd ∧ t.burst = s.burst ∧ t.burst8 = s.burst8 ∧ t.ccfilt = s.ccfilt ∧ s.SameModelFields t

/-! ### Frames of the commands (10_state R46) -/

/-- R46: what each command leaves unchanged, register by register; INFO is written only on success. -/
def Obligations.CommandRegisterFrames : Prop :=
  (∀ s t : State, exec .nop s = .next t → t = { s with status := t.status }) ∧
  (∀ s t : State, exec .classify s = .next t → t = { s with status := t.status, clsr := t.clsr }) ∧
  (∀ s t : State, exec .slottype s = .next t → t = { s with status := t.status, str := t.str }) ∧
  (∀ s t : State, exec .bptc s = .next t →
    t = { s with status := t.status, bptcr := t.bptcr, info := t.info } ∧ (t.status.ok = false → t.info = s.info)) ∧
  (∀ p ∈ rsdecMasks, ∀ s t : State, exec p.1 s = .next t →
    t = { s with status := t.status, rsr := t.rsr, info := t.info } ∧ (t.status.ok = false → t.info = s.info)) ∧
  (∀ p ∈ crcchk24Masks, ∀ s t : State, exec p.1 s = .next t → t = { s with status := t.status, crcr := t.crcr }) ∧
  (∀ p ∈ crcchk16Masks, ∀ s t : State, exec p.1 s = .next t → t = { s with status := t.status, crcr := t.crcr }) ∧
  (∀ s t : State, exec .clear s = .next t →
    t = { s with status := t.status, clsr := t.clsr, str := t.str, bptcr := t.bptcr, rsr := t.rsr, crcr := t.crcr })

/-- R46, R71: the same in the host's address space, which is all the memory there is (R70): every offset outside the
registers the command may write reads after as before. -/
def Obligations.CommandWindowFrames : Prop :=
  ∀ (i : Instr) (s t : State), exec i s = .next t →
    ∀ off : Nat, off ∉ writtenOffsets i → t.windowRead off = s.windowRead off

/-- R272, D40: the results of a command depend on CMD, BURST, INFO and CCFILT alone, never on STATUS.ERR or on a result
register. -/
def Obligations.CommandsDependOnlyOnOperands : Prop :=
  ∀ (i : Instr) (s t : State), s.SameOperands t → ∃ s' t' : State, exec i s = .next s' ∧ exec i t = .next t' ∧
    s'.info = t'.info ∧ s'.status.ok = t'.status.ok ∧ s'.status.err = t'.status.err ∧
    s'.status.lastop = t'.status.lastop ∧
    (i = .classify → s'.clsr = t'.clsr) ∧ (i = .slottype → s'.str = t'.str) ∧ (i = .bptc → s'.bptcr = t'.bptcr) ∧
    ((i = .rsdecNone ∨ i = .rsdecVlc ∨ i = .rsdecTlc) → s'.rsr = t'.rsr) ∧
    ((i = .crcchkVlc ∨ i = .crcchkTlc ∨ i = .crcchkPi ∨ i = .crcchkDh ∨ i = .crcchkCsbk) → s'.crcr = t'.crcr)

/-- R150, R171, R194, R307: of the burst, CLASSIFY reads only bits 108..155, SLOTTYPE only 98..107 and 156..165, BPTC only
0..97 and 166..263. -/
def Obligations.BurstCommandsReadOnlyTheirBits : Prop :=
  (∀ s t : State, (∀ i, 108 ≤ i → i ≤ 155 → s.burstBit i = t.burstBit i) →
    ∃ s' t' : State, exec .classify s = .next s' ∧ exec .classify t = .next t' ∧ s'.clsr = t'.clsr ∧
      s'.status.err = t'.status.err) ∧
  (∀ s t : State, s.ccfilt = t.ccfilt → (∀ i, 98 ≤ i → i ≤ 107 → s.burstBit i = t.burstBit i) →
    (∀ i, 156 ≤ i → i ≤ 165 → s.burstBit i = t.burstBit i) →
    ∃ s' t' : State, exec .slottype s = .next s' ∧ exec .slottype t = .next t' ∧ s'.str = t'.str ∧
      s'.status.err = t'.status.err) ∧
  (∀ s t : State, (∀ i ≤ 97, s.burstBit i = t.burstBit i) →
    (∀ i, 166 ≤ i → i ≤ 263 → s.burstBit i = t.burstBit i) →
    ∃ s' t' : State, exec .bptc s = .next s' ∧ exec .bptc t = .next t' ∧ s'.bptcr = t'.bptcr ∧
      s'.status.err = t'.status.err ∧ (s'.status.ok = true → s'.info = t'.info))

/-! ### CLASSIFY (41_classify) -/

/-- R150, R149: CLASSIFY finds the first pattern of smallest distance `d` from BURST<108..155>; TYPE is its index when `d` is
at most 6 and UNKNOWN (9) with CLASSIFICATION_FAILURE otherwise; DIST and IDX are written in both cases, and nothing but
CLSR and STATUS. Burst bit 108 is bit 47 of the field. -/
def Obligations.ClassifyFindsTheFirstNearestPattern : Prop :=
  ∀ s : State, (∀ j < 48, s.syncField.getLsbD (47 - j) = s.burstBit (108 + j)) ∧ ∃ i : Fin 9,
    (∀ j : Fin 9, s.syncDistance i ≤ s.syncDistance j) ∧ (∀ j : Fin 9, j < i → s.syncDistance i < s.syncDistance j) ∧
    s.syncDistance i ≤ 48 ∧
    exec .classify s = .next { s with
      clsr := ⟨if s.syncDistance i ≤ 6 then BitVec.ofNat 4 i else 9, BitVec.ofNat 6 (s.syncDistance i),
        BitVec.ofNat 4 i, s.syncDistance i ≤ 6⟩,
      status := .after s.cmd s.status.wdrop (if s.syncDistance i ≤ 6 then .none else .classificationFailure) }

/-- R152: the distances between the patterns are those of the table. -/
def Obligations.SyncPatternDistances : Prop :=
  ∀ i j : Fin 9, popcount (const.sync[i] ^^^ const.sync[j]) = (syncDistanceTable.getD i []).getD j 0

/-- R152: a field within 4 bits of a pattern is classified as that pattern, and a pattern as itself at distance 0. -/
def Obligations.ClassifyCorrectsFourBits : Prop :=
  ∀ (s : State) (i : Fin 9), s.syncDistance i ≤ 4 →
    exec .classify s = .next { s with
      clsr := ⟨BitVec.ofNat 4 i, BitVec.ofNat 6 (s.syncDistance i), BitVec.ofNat 4 i, true⟩,
      status := .after s.cmd s.status.wdrop .none }

/-! ### SLOTTYPE (42_slottype) -/

/-- R172: the default slot-type code has minimum distance 8. -/
def Obligations.GolayMinimumDistanceIsEight : Prop :=
  (∀ d e : BitVec 8, d ≠ e → 8 ≤ popcount (golayCw const d ^^^ golayCw const e)) ∧
  (∃ d e : BitVec 8, d ≠ e ∧ popcount (golayCw const d ^^^ golayCw const e) = 8)

/-- R171, R172, R173: a word within 3 bits of the codeword of `d` decodes to `d`, and is accepted unless the filter rejects its
colour code. R170: bit 19 of the word is burst bit 98, bit 9 is burst bit 156 and bit 0 is burst bit 165. -/
def Obligations.SlottypeAcceptsWithinThreeBits : Prop :=
  (∀ s : State, (∀ j < 10, s.slotTypeWord.getLsbD (19 - j) = s.burstBit (98 + j)) ∧
    (∀ j < 10, s.slotTypeWord.getLsbD (9 - j) = s.burstBit (156 + j))) ∧
  (∀ (s : State) (d : BitVec 8), s.slotDistance d ≤ 3 → (s.ccfilt.en = false ∨ d.extractLsb' 4 4 = s.ccfilt.ecc) →
    exec .slottype s = .next { s with
      str := ⟨d.extractLsb' 0 4, d.extractLsb' 4 4, BitVec.ofNat 3 (s.slotDistance d), true, false⟩,
      status := .after s.cmd s.status.wdrop .none })

/-- R171, R34: with the filter enabled and another colour code expected, the decoded values are kept with CCM = 1 and OK = 0,
and CC_MISMATCH is raised. -/
def Obligations.SlottypeFilterRejectsOtherColourCodes : Prop :=
  ∀ (s : State) (d : BitVec 8), s.slotDistance d ≤ 3 → s.ccfilt.en = true → d.extractLsb' 4 4 ≠ s.ccfilt.ecc →
    exec .slottype s = .next { s with
      str := ⟨d.extractLsb' 0 4, d.extractLsb' 4 4, BitVec.ofNat 3 (s.slotDistance d), false, true⟩,
      status := .after s.cmd s.status.wdrop .ccMismatch }

/-- R171, R172, D38: a word more than 3 bits from every codeword raises SLOT_TYPE_ERROR whatever the filter; CC, DT, OK and CCM
read 0 and NERR is the smallest distance, at most 7. -/
def Obligations.SlottypeRejectsFarWords : Prop :=
  ∀ s : State, (∀ d : BitVec 8, 3 < s.slotDistance d) → ∃ D : Nat,
    (∀ d : BitVec 8, D ≤ s.slotDistance d) ∧ (∃ d : BitVec 8, s.slotDistance d = D) ∧
    exec .slottype s = .next { s with
      str := ⟨0, 0, BitVec.ofNat 3 (min D 7), false, false⟩,
      status := .after s.cmd s.status.wdrop .slotTypeError }

/-- R172: every pattern of exactly 4 bit errors fails, with NERR = 4. -/
def Obligations.SlottypeDetectsFourErrors : Prop :=
  ∀ (s : State) (d : BitVec 8), s.slotDistance d = 4 →
    exec .slottype s = .next { s with
      str := ⟨0, 0, 4, false, false⟩, status := .after s.cmd s.status.wdrop .slotTypeError }

/-! ### BPTC (43_bptc) -/

/-- R190, R191, R12: matrix bit `a` is carried by raw bit `a * 181 mod 196`, which lies in the two payload halves of the burst;
the map is a bijection. -/
def Obligations.BptcMatrixIsTheInterleavedBlock : Prop :=
  (∀ (s : State) (a : Nat), a < 196 → (s.matrix const).getLsbD a =
    s.burstBit (if a * 181 % 196 < 98 then a * 181 % 196 else a * 181 % 196 + 68)) ∧
  (∀ j < 196, ∃ a < 196, a * 181 % 196 = j ∧ ∀ b < 196, b * 181 % 196 = j → b = a)

/-- R194, R37: BPTC runs 1 to 5 passes of at most 24 inversions, never inverts M[0], and writes INFO, from the information
positions of the corrected matrix as R192 lists them, exactly when every column and every data row of it checks. -/
def Obligations.BptcAcceptsOnlyACheckingMatrix : Prop :=
  ∀ (s : State) (x : Correction) (passes : Nat), bptcDecode const (s.matrix const) = (x, passes) →
    1 ≤ passes ∧ passes ≤ 5 ∧ x.flips ≤ 24 * passes ∧ popcount (x.m ^^^ s.matrix const) ≤ x.flips ∧
    x.m.getLsbD 0 = (s.matrix const).getLsbD 0 ∧
    (matrixOk const x.m = true → ∃ t, exec .bptc s = .next t ∧ t.InfoIs x.m ∧ t = { s with
      bptcr := ⟨BitVec.ofNat 8 x.flips, BitVec.ofNat 3 passes, true⟩, info := t.info,
      status := .after s.cmd s.status.wdrop .none }) ∧
    (matrixOk const x.m = false → exec .bptc s = .next { s with
      bptcr := ⟨BitVec.ofNat 8 x.flips, BitVec.ofNat 3 passes, false⟩,
      status := .after s.cmd s.status.wdrop .bptcUncorrectable })

/-- R194, corner cases: a block with at most one error in every column (and anything at M[0]) is corrected exactly; with `n`
errors in M[1..195] FLIPS is `n`, and PASSES is 1 for `n = 0` and 2 otherwise; INFO is M at the positions of R192. -/
def Obligations.BptcCorrectsOneErrorPerColumn : Prop :=
  ∀ (s : State) (M E : Matrix), matrixOk const M = true → (∀ c < 15, AtMostOneInColumn E c) →
    s.matrix const = M ^^^ E →
    ∃ t, exec .bptc s = .next t ∧ t.InfoIs M ∧ t = { s with
      bptcr := ⟨BitVec.ofNat 8 (popcount (E &&& ~~~1#196)), if popcount (E &&& ~~~1#196) = 0 then 1 else 2, true⟩,
      info := t.info, status := .after s.cmd s.status.wdrop .none }

/-- R194, corner cases: two errors in one column, both in the column parity rows 9..12, are always BPTC_UNCORRECTABLE, and
INFO is unchanged. -/
def Obligations.BptcRejectsTwoParityRowErrors : Prop :=
  ∀ (s : State) (M : Matrix) (c a b : Nat), matrixOk const M = true → c < 15 → 9 ≤ a → a < b → b ≤ 12 →
    s.matrix const = M ^^^ bitAt 196 (colIdx c a) ^^^ bitAt 196 (colIdx c b) →
    ∃ t, exec .bptc s = .next t ∧ t.status.err = .bptcUncorrectable ∧ t.status.ok = false ∧ t.bptcr.ok = false ∧
      t.info = s.info

/-- R193, R194: both codes are linear, so the course of the decoder depends only on the errors: decoding a block that differs
by a codeword makes the same inversions in the same passes. -/
def Obligations.BptcDecodingDependsOnlyOnTheErrors : Prop :=
  ∀ M E : Matrix, matrixOk const M = true →
    bptcDecode const (E ^^^ M) =
      ({ (bptcDecode const E).1 with m := (bptcDecode const E).1.m ^^^ M }, (bptcDecode const E).2)

/-! ### RSDEC (44_rs) and GF(2^8) (00_scope R17) -/

/-- R13, R17: the default generator polynomial is (x+α)(x+α^2)(x+α^3). EXP is 1 at 0 and each next value is the last shifted left and reduced; LOG inverts EXP on 1..255, the product of non-zero elements is EXP of the sum of the logarithms, a product with 0 is
0, and a quotient times its divisor is the dividend. -/
def Obligations.GfArithmeticByLogarithms : Prop :=
  (const.gfPoly = 0x11D ∧ const.gfAlpha = 0x02 ∧ ∀ a b c : Byte,
    a = gfExp 0x11D 0x02 1 → b = gfExp 0x11D 0x02 2 → c = gfExp 0x11D 0x02 3 →
    const.rsGen = (a ^^^ b ^^^ c, gfMul 0x11D a b ^^^ gfMul 0x11D a c ^^^ gfMul 0x11D b c,
      gfMul 0x11D (gfMul 0x11D a b) c)) ∧
  gfExp 0x11D 0x02 0 = 1 ∧ (∀ i, gfExp 0x11D 0x02 (i + 1) = xtime 0x11D (gfExp 0x11D 0x02 i)) ∧
  (∀ a : Byte, a ≠ 0 → gfExp 0x11D 0x02 (gfLog 0x11D 0x02 a) = a ∧ gfLog 0x11D 0x02 a < 255) ∧
  (∀ a b : Byte, a ≠ 0 → b ≠ 0 →
    gfMul 0x11D a b = gfExp 0x11D 0x02 ((gfLog 0x11D 0x02 a + gfLog 0x11D 0x02 b) % 255)) ∧
  (∀ a : Byte, gfMul 0x11D a 0 = 0 ∧ gfMul 0x11D 0 a = 0) ∧
  (∀ a b : Byte, b ≠ 0 → gfMul 0x11D (gfDiv 0x11D 0x02 a b) b = a)

/-- R221: a 12-byte word is a codeword exactly when its check bytes are the parity of its data bytes. -/
def Obligations.RsCodewordsAreThoseWithTheirParity : Prop :=
  ∀ b : List Byte, b.length = 12 →
    (RsCodeword const b ↔ rsParity const (b.take 9) = (b.getD 9 0, b.getD 10 0, b.getD 11 0))

/-- R224: an unmasked codeword decodes with no error; INFO is rewritten with the same bytes. -/
def Obligations.RsdecAcceptsACodeword : Prop :=
  ∀ p ∈ rsdecMasks, ∀ s : State, RsCodeword const (maskChecks p.2 s.infoBytes) →
    exec p.1 s = .next { s with rsr := ⟨0, 0xF, true⟩, status := .after s.cmd s.status.wdrop .none }

/-- R224, R223: one wrong byte anywhere in 0..11, of any non-zero error value, is corrected; NCORR is 1 and POS its index, and
the mask is restored in INFO. -/
def Obligations.RsdecCorrectsOneByte : Prop :=
  ∀ p ∈ rsdecMasks, ∀ (s : State) (c : List Byte) (i : Nat) (e : Byte), RsCodeword const c → i < 12 → e ≠ 0 →
    maskChecks p.2 s.infoBytes = addByteError c i e →
    exec p.1 s = .next { s with
      info := packInfoBytes (maskChecks p.2 c), rsr := ⟨1, BitVec.ofNat 4 i, true⟩,
      status := .after s.cmd s.status.wdrop .none }

/-- R223, R224: every word that no change of at most one symbol brings to a codeword is RS_UNCORRECTABLE: NCORR 3, POS 0xF,
INFO unchanged. -/
def Obligations.RsdecRejectsBeyondOneSymbol : Prop :=
  ∀ p ∈ rsdecMasks, ∀ s : State,
    (∀ (c : List Byte) (i : Nat) (e : Byte), RsCodeword const c → i < 12 →
      maskChecks p.2 s.infoBytes ≠ addByteError c i e) →
    exec p.1 s = .next { s with
      rsr := ⟨3, 0xF, false⟩, status := .after s.cmd s.status.wdrop .rsUncorrectable }

/-- R224: two wrong bytes are always RS_UNCORRECTABLE. -/
def Obligations.RsdecRejectsTwoByteErrors : Prop :=
  ∀ p ∈ rsdecMasks, ∀ (s : State) (c : List Byte) (i j : Nat) (e f : Byte), RsCodeword const c → i < j → j < 12 →
    e ≠ 0 → f ≠ 0 → maskChecks p.2 s.infoBytes = addByteError (addByteError c i e) j f →
    exec p.1 s = .next { s with
      rsr := ⟨3, 0xF, false⟩, status := .after s.cmd s.status.wdrop .rsUncorrectable }

/-! ### CRCCHK (45_crc) -/

/-- R252, R254, R251: the 16-bit kinds compare the masked CRC of INFOBITS<0..79> with INFOBITS<80..95>, the 24-bit kinds the
masked RS parity of info bytes 0..8 with info bytes 9..11; CALC is the computed value in both cases, and nothing but CRCR
and STATUS is written. -/
def Obligations.CrcchkComparesTheMaskedCheck : Prop :=
  (∀ p ∈ crcchk16Masks, ∀ s : State,
    exec p.1 s = .next { s with
      crcr := ⟨(crc16 const s.infoBit 80 ^^^ p.2).setWidth 24, crc16 const s.infoBit 80 ^^^ p.2 = seqInt 16 s.infoBit 80⟩,
      status := .after s.cmd s.status.wdrop
        (if crc16 const s.infoBit 80 ^^^ p.2 = seqInt 16 s.infoBit 80 then .none else .crcMismatch) }) ∧
  (∀ p ∈ crcchk24Masks, ∀ s : State,
    exec p.1 s = .next { s with
      crcr := ⟨check24 const (s.infoBytes.take 9) ^^^ p.2,
        check24 const (s.infoBytes.take 9) ^^^ p.2 = s.infoByte 9 ++ s.infoByte 10 ++ s.infoByte 11⟩,
      status := .after s.cmd s.status.wdrop
        (if check24 const (s.infoBytes.take 9) ^^^ p.2 = s.infoByte 9 ++ s.infoByte 10 ++ s.infoByte 11 then .none
          else .crcMismatch) })

/-- R14, R250: the bit-serial CRC is the complement of the remainder of the 80 bits times x^16 modulo
x^16 + x^12 + x^5 + 1. -/
def Obligations.CrcIsThePolynomialRemainder : Prop :=
  ∀ x : BitSeq, crc16 const x 80 = ~~~((polyRem 0x11021#96 16 80 (seqInt 80 x 0 ++ 0#16)).setWidth 16)

/-- R252, corner cases: any single-bit change of the 80 data bits or the 16 check bits makes a passing 16-bit check fail. -/
def Obligations.CrcDetectsEverySingleBitError : Prop :=
  ∀ p ∈ crcchk16Masks, ∀ (s s' t : State) (j : Nat), j < 96 →
    (∀ i < 96, s'.infoBit i = (s.infoBit i ^^ decide (i = j))) → exec p.1 s = .next t → t.status.ok = true →
    ∃ t', exec p.1 s' = .next t' ∧ t'.status.ok = false ∧ t'.status.err = .crcMismatch ∧ t'.crcr.ok = false

/-- R252, corner cases: any change of one byte makes a passing 24-bit check fail. -/
def Obligations.ParityDetectsEveryByteError : Prop :=
  ∀ p ∈ crcchk24Masks, ∀ (s s' t : State) (i : Nat) (e : Byte), i < 12 → e ≠ 0 →
    s'.infoBytes = addByteError s.infoBytes i e → exec p.1 s = .next t → t.status.ok = true →
    ∃ t', exec p.1 s' = .next t' ∧ t'.status.ok = false ∧ t'.status.err = .crcMismatch ∧ t'.crcr.ok = false

/-- R252, corner cases: a word that passes with one 16-bit kind fails with every other. -/
def Obligations.CrcKindsExclude : Prop :=
  ∀ p ∈ crcchk16Masks, ∀ q ∈ crcchk16Masks, p.1 ≠ q.1 → ∀ s t : State, exec p.1 s = .next t → t.status.ok = true →
    ∃ u, exec q.1 s = .next u ∧ u.status.ok = false

/-- R253: after RSDEC, CRCCHK of the same kind (the same mask) passes if and only if RSDEC succeeded, that is if and only if
INFO then holds a masked codeword; a failed RSDEC leaves INFO unchanged, and CRCCHK always does. -/
def Obligations.CrcchkPassesExactlyAfterSuccessfulRsdec : Prop :=
  ∀ p ∈ rsdecMasks, ∀ q ∈ crcchk24Masks, p.2 = q.2 → ∀ s : State, ∃ t u : State,
    exec p.1 s = .next t ∧ exec q.1 t = .next u ∧ u.status.ok = t.status.ok ∧
    (t.status.ok = true ↔ RsCodeword const (maskChecks p.2 t.infoBytes)) ∧
    (t.status.ok = false → t.info = s.info) ∧ u.info = t.info

/-! ### The register window (20_memory, 10_state) -/

/-- R72: an access of another width than 32 bits or at a misaligned offset is refused. An offset outside the window is a fault,
and the order of the three checks is the model's choice (log 6). -/
def Obligations.UndefinedAccessesStop : Prop :=
  ∀ (s : State) (width off : Nat) (v : Word),
    (width ≠ 4 → hostStep (.read width off) s = .refused .undefinedWidth ∧
      hostStep (.write width off v) s = .refused .undefinedWidth) ∧
    (off % 4 ≠ 0 → hostStep (.read 4 off) s = .refused .misaligned ∧
      hostStep (.write 4 off v) s = .refused .misaligned) ∧
    (off % 4 = 0 → 0x100 ≤ off → hostStep (.read 4 off) s = .fault .outsideWindow ∧
      hostStep (.write 4 off v) s = .fault .outsideWindow)

/-- R73: a host read changes no register; it returns the register with reserved bits 0, 0 for an unmapped offset, and ANY32
(a fresh free value, log 3) while BUSY for any register but ID and STATUS. -/
def Obligations.HostReadHasNoSideEffect : Prop :=
  ∀ (s : State) (off : Nat), off % 4 = 0 → off < 0x100 →
    (s.status.busy = true → off ≠ 0x000 → off ≠ 0x008 → hostStep (.read 4 off) s =
      .next { s with reads := Config.anyRead s.stream s.draws :: s.reads, draws := s.draws + 1 }) ∧
    (s.status.busy = false → Unmapped off →
      hostStep (.read 4 off) s = .next { s with reads := 0 :: s.reads }) ∧
    (∀ r, s.status.busy = false ∨ off = 0x000 ∨ off = 0x008 → regAt off = some r →
      hostStep (.read 4 off) s = .next { s with reads := s.readReg r :: s.reads })

/-- R31: ID reads 0x42434301 at all times, also while BUSY; a write of it is ignored, and while BUSY only recorded in WDROP. -/
def Obligations.IdIsConstant : Prop :=
  ∀ (s : State) (v : Word), hostStep (.read 4 0x000) s = .next { s with reads := 0x42434301 :: s.reads } ∧
    (s.status.busy = false → hostStep (.write 4 0x000 v) s = .next s) ∧
    (s.status.busy = true → hostStep (.write 4 0x000 v) s =
      .next { s with status := { s.status with wdrop := true } })

/-- R33 to R40, D39: every reserved bit reads 0, in every state. -/
def Obligations.ReservedBitsReadZero : Prop :=
  ∀ s : State, s.windowRead 0x008 &&& 0xFFFEF008 = 0 ∧ s.windowRead 0x00C &&& 0xFFFFFEF0 = 0 ∧
    s.windowRead 0x010 &&& 0xFEF0C0F0 = 0 ∧ s.windowRead 0x014 &&& 0xFFFFC800 = 0 ∧
    s.windowRead 0x018 &&& 0xFFFEF800 = 0 ∧ s.windowRead 0x01C &&& 0xFFFEF0FC = 0 ∧
    s.windowRead 0x020 &&& 0xFE000000 = 0 ∧ s.windowRead 0x060 &&& 0x00FFFFFF = 0

/-- R32 to R39: each field stands at its bits of its register, and CMD reads the last word stored, reserved bits included. -/
def Obligations.FieldsStandAtTheirBits : Prop :=
  ∀ s : State,
    s.windowRead 0x004 = s.cmd ∧
    (s.windowRead 0x008).getLsbD 0 = s.status.busy ∧ (s.windowRead 0x008).getLsbD 1 = s.status.done ∧
    (s.windowRead 0x008).getLsbD 2 = s.status.ok ∧ (s.windowRead 0x008).extractLsb' 4 4 = s.status.err.code ∧
    (s.windowRead 0x008).extractLsb' 8 4 = s.status.lastop ∧ (s.windowRead 0x008).getLsbD 16 = s.status.wdrop ∧
    (s.windowRead 0x00C).extractLsb' 0 4 = s.ccfilt.ecc ∧ (s.windowRead 0x00C).getLsbD 8 = s.ccfilt.en ∧
    (s.windowRead 0x010).extractLsb' 0 4 = s.clsr.type ∧ (s.windowRead 0x010).extractLsb' 8 6 = s.clsr.dist ∧
    (s.windowRead 0x010).extractLsb' 16 4 = s.clsr.idx ∧ (s.windowRead 0x010).getLsbD 24 = s.clsr.ok ∧
    (s.windowRead 0x014).extractLsb' 0 4 = s.str.dt ∧ (s.windowRead 0x014).extractLsb' 4 4 = s.str.cc ∧
    (s.windowRead 0x014).extractLsb' 8 3 = s.str.nerr ∧ (s.windowRead 0x014).getLsbD 12 = s.str.ok ∧
    (s.windowRead 0x014).getLsbD 13 = s.str.ccm ∧
    (s.windowRead 0x018).extractLsb' 0 8 = s.bptcr.flips ∧ (s.windowRead 0x018).extractLsb' 8 3 = s.bptcr.passes ∧
    (s.windowRead 0x018).getLsbD 16 = s.bptcr.ok ∧
    (s.windowRead 0x01C).extractLsb' 0 2 = s.rsr.ncorr ∧ (s.windowRead 0x01C).extractLsb' 8 4 = s.rsr.pos ∧
    (s.windowRead 0x01C).getLsbD 16 = s.rsr.ok ∧
    (s.windowRead 0x020).extractLsb' 0 24 = s.crcr.computed ∧ (s.windowRead 0x020).getLsbD 24 = s.crcr.ok

/-- R74: a host write, for every offset of the window, while BUSY and while not. An unmapped offset ignores it; while BUSY it is
dropped and recorded in WDROP; else read-only registers ignore it, CMD issues (R130), STATUS clears WDROP where bit 16
is 1, and the others store their bits. -/
def Obligations.HostWriteByRegister : Prop :=
  (∀ (s : State) (off : Nat) (v : Word), off % 4 = 0 → off < 0x100 →
    (Unmapped off → hostStep (.write 4 off v) s = .next s) ∧
    (¬Unmapped off → s.status.busy = true →
      hostStep (.write 4 off v) s = .next { s with status := { s.status with wdrop := true } })) ∧
  (∀ (s : State) (v : Word), s.status.busy = false →
    (∀ off ∈ [0x000, 0x010, 0x014, 0x018, 0x01C, 0x020], hostStep (.write 4 off v) s = .next s) ∧
    (∃ t, hostStep (.write 4 0x004 v) s = .next t ∧
      t = { s with cmd := v, status := ⟨true, false, false, .none, s.status.lastop, s.status.wdrop⟩,
                   delay := t.delay, issues := t.issues }) ∧
    hostStep (.write 4 0x008 v) s =
      .next { s with status := { s.status with wdrop := s.status.wdrop && !v.getLsbD 16 } } ∧
    hostStep (.write 4 0x00C v) s = .next { s with ccfilt := ⟨v.extractLsb' 0 4, v.getLsbD 8⟩ } ∧
    (∀ k : Fin 8, hostStep (.write 4 (0x040 + 4 * k) v) s = .next { s with burst := s.burst.set k v }) ∧
    hostStep (.write 4 0x060 v) s = .next { s with burst8 := v.extractLsb' 24 8 } ∧
    (∀ k : Fin 3, hostStep (.write 4 (0x080 + 4 * k) v) s = .next { s with info := s.info.set k v }))

/-- R74, R283: a host write while BUSY is dropped and only recorded in WDROP; at an unmapped offset it has no effect at all. -/
def Obligations.WriteWhileBusyIsDropped : Prop :=
  ∀ (s : State) (off : Nat) (v : Word), s.status.busy = true → off % 4 = 0 → off < 0x100 →
    hostStep (.write 4 off v) s =
      .next (if regAt off = none then s else { s with status := { s.status with wdrop := true } })

/-- R283: WDROP is set only by a dropped write to a mapped register, and cleared only by a write of STATUS with bit 16 = 1 while
BUSY = 0, by CLEAR, or by reset. -/
def Obligations.WdropIsSticky : Prop :=
  ∀ s t : State, step s = .next t →
    (s.status.wdrop = false → t.status.wdrop = true →
      s.status.busy = true ∧ ∃ (off : Nat) (v : Word) (rest : List HostOp),
        s.HostTurn (.write 4 off v) rest ∧ regAt off ≠ none) ∧
    (s.status.wdrop = true → t.status.wdrop = false →
      (s.CoreTurn ∧ s.cmd = 0x00000006) ∨ (∃ rest, s.HostTurn .reset rest) ∨
      (s.status.busy = false ∧ ∃ (v : Word) (rest : List HostOp),
        s.HostTurn (.write 4 0x008 v) rest ∧ v.getLsbD 16 = true))

/-- R75: after a write of `v` to BURST{k} the burst bits 32k to 32k + 31 (32k + 7 for BURST8) are the bits of `v` from the
most significant on, and every other burst bit is as before; likewise INFO. -/
def Obligations.RegisterBitsInTransmissionOrder : Prop :=
  ∀ (s : State) (v : Word), s.status.busy = false →
    (∀ (k : Fin 9) (i : Nat), i < 264 → (s.hostWrite (0x040 + 4 * k) v).burstBit i =
      if i / 32 = k then v.getLsbD (31 - i % 32) else s.burstBit i) ∧
    (∀ (k : Fin 3) (i : Nat), i < 96 → (s.hostWrite (0x080 + 4 * k) v).infoBit i =
      if i / 32 = k then v.getLsbD (31 - i % 32) else s.infoBit i)

/-- R75: each burst bit, information bit and information byte, in the registers as the window shows them. -/
def Obligations.BitsAndBytesInTheWindow : Prop :=
  ∀ s : State,
    (∀ i < 264, s.burstBit i = (s.windowRead (0x040 + 4 * (i / 32))).getLsbD (31 - i % 32)) ∧
    (∀ i < 96, s.infoBit i = (s.windowRead (0x080 + 4 * (i / 32))).getLsbD (31 - i % 32)) ∧
    (∀ k < 12, s.infoByte k = (s.windowRead (0x080 + 4 * (k / 4))).extractLsb' (24 - 8 * (k % 4)) 8 ∧
      ∀ j < 8, (s.infoByte k).getLsbD (7 - j) = s.infoBit (8 * k + j))

/-- R107: `wait` reads STATUS once at its turn and is taken from the inputs exactly when BUSY = 0 (one reading a step is the
model's choice, log 7). -/
def Obligations.WaitRepeatsWhileBusy : Prop :=
  ∀ s : State, hostStep .wait s = .next { s with
    reads := s.status.word :: s.reads, inputs := if s.status.busy = true then .wait :: s.inputs else s.inputs }

/-! ### Reset (70_reset) and legal states -/

/-- R48: the reset value of every register, read through the window; an unmapped offset reads 0 in every state. -/
def Obligations.ResetValues : Prop :=
  State.reset.windowRead 0x000 = 0x42434301 ∧ State.reset.windowRead 0x004 = 0 ∧ State.reset.windowRead 0x008 = 0 ∧
  State.reset.windowRead 0x00C = 0 ∧ State.reset.windowRead 0x010 = 0x00000009 ∧ State.reset.windowRead 0x014 = 0 ∧
  State.reset.windowRead 0x018 = 0 ∧ State.reset.windowRead 0x01C = 0x00000F00 ∧ State.reset.windowRead 0x020 = 0 ∧
  (∀ k : Fin 9, State.reset.windowRead (0x040 + 4 * k) = 0) ∧
  (∀ k : Fin 3, State.reset.windowRead (0x080 + 4 * k) = 0) ∧
  (∀ (s : State) (off : Nat), off % 4 = 0 → Unmapped off → s.windowRead off = 0)

/-- R300: reset, at any point and also while BUSY, gives every register its reset value in one step; a pending command is
discarded. What is outside the core is kept (the model's choice, log 13). -/
def Obligations.ResetDiscardsThePendingCommand : Prop :=
  ∀ (s : State) (rest : List HostOp), s.HostTurn .reset rest → ∃ t, step s = .next t ∧ t.status.busy = false ∧
    (∀ off, t.windowRead off = State.reset.windowRead off) ∧
    t.inputs = rest ∧ t.reads = s.reads ∧ t.issues = s.issues ∧ t.draws = s.draws ∧ t.stream = s.stream

/-- R48: the machine right after reset is legal. -/
def Obligations.ResetIsLegal : Prop := State.reset.Legal

/-- R33 to R38, R45, U6: every step, from every legal state, reaches a legal state: the reserved field values never occur, OK and
ERR agree, and the result registers stay within their ranges. -/
def Obligations.StepKeepsLegal : Prop := ∀ s t : State, s.Legal → step s = .next t → t.Legal

/-! ### Several instances (20_memory R83, 60_exceptions R280) -/

/-- R83, R280: a platform has at least one instance; a step of one instance with any constants, its reset input, and a host
access to its window never change another instance; each instance draws its free values from a sequence of its own, that
of its place. The form of the platform is the model's choice (log 9). -/
def Obligations.InstancesAreIsolated : Prop :=
  (∀ p : Platform, 1 ≤ p.count) ∧
  (∀ (k : Nat → Const) (p q : Platform) (n m : Nat), p.stepAtWith k n = .next q → m ≠ n →
    q.instances[m]? = p.instances[m]?) ∧
  (∀ (k : Nat → Const) (p q : Platform) (n : Nat) (x : Instance), p.stepAtWith k n = .next q →
    p.instances[n]? = some x → ∃ s, stepWith (k n) (x.core.setStream n) = .next s ∧ s.stream = n ∧
      q.instances[n]? = some { x with core := s }) ∧
  (∀ (p : Platform) (n m : Nat), m ≠ n → (p.postReset n).instances[m]? = p.instances[m]?) ∧
  (∀ (p : Platform) (n m width addr : Nat) (v : Word) (x y : Instance), p.Disjoint → m ≠ n →
    p.instances[n]? = some x → p.instances[m]? = some y → x.holds addr = true →
    (p.postRead width addr).instances[m]? = some y ∧ (p.postWrite width addr v).instances[m]? = some y ∧
    (p.postWrite width addr v).instances[n]? = some (x.post (.write width (addr - x.base) v)) ∧
    (p.postRead width addr).instances[n]? = some (x.post (.read width (addr - x.base))))
end

