-- ==== Sys2Proof/Laws/Bits.lean ====
section
/-! SUPPORT. The small lemmas of the bit operations: each packed bit, popcount as a count and its laws, and the linearity of
parity checks and syndromes. -/

namespace Sys2Proof.Machine

@[simp] theorem getLsbD_packBits (n : Nat) (f : Nat → Bool) (i : Nat) :
    (packBits n f).getLsbD i = (decide (i < n) && f i) := by
  induction n with
  | zero => simp [packBits]
  | succ n ih =>
    rw [packBits, BitVec.getLsbD_cons, ih]
    by_cases h : i = n
    · simp [h]
    · have : i < n + 1 ↔ i < n := by omega
      simp [h, this]

@[simp] theorem getElem_packBits (n : Nat) (f : Nat → Bool) (i : Nat) (h : i < n) : (packBits n f)[i] = f i := by
  rw [← BitVec.getLsbD_eq_getElem, getLsbD_packBits]; simp [h]

@[simp] theorem getLsbD_seqInt (n : Nat) (s : BitSeq) (a j : Nat) :
    (seqInt n s a).getLsbD j = (decide (j < n) && s (a + (n - 1 - j))) := by
  simp [seqInt]

@[simp] theorem getElem_seqInt (n : Nat) (s : BitSeq) (a j : Nat) (h : j < n) :
    (seqInt n s a)[j] = s (a + (n - 1 - j)) := by
  simp [seqInt]

/-- Two sequences that agree on `s<a..a+n-1>` have the same `int(s<a..a+n-1>)`. -/
theorem seqInt_congr {n a : Nat} {s t : BitSeq} (h : ∀ i, a ≤ i → i < a + n → s i = t i) :
    seqInt n s a = seqInt n t a := by
  apply BitVec.eq_of_getLsbD_eq
  intro j hj
  simp only [getLsbD_seqInt, hj, decide_true, Bool.true_and]
  exact h _ (by omega) (by omega)

theorem countTrue_congr {f g : Nat → Bool} {n : Nat} (h : ∀ i < n, f i = g i) : countTrue f n = countTrue g n := by
  induction n with
  | zero => rfl
  | succ n ih => rw [countTrue, countTrue, ih (fun i hi => h i (by omega)), h n (by omega)]

theorem countTrue_le (f : Nat → Bool) (n : Nat) : countTrue f n ≤ n := by
  induction n with
  | zero => simp [countTrue]
  | succ n ih => rw [countTrue]; have := Bool.toNat_le (f n); omega

/-- The number of differences is at most the sum of two numbers of differences (the triangle inequality). -/
theorem countTrue_xor_le (f g : Nat → Bool) (n : Nat) :
    countTrue (fun i => f i ^^ g i) n ≤ countTrue f n + countTrue g n := by
  induction n with
  | zero => simp [countTrue]
  | succ n ih => simp only [countTrue]; cases f n <;> cases g n <;> simp <;> omega

theorem popcount_le {w : Nat} (v : BitVec w) : popcount v ≤ w := countTrue_le _ _

theorem popcount_xor_le {w : Nat} (u v : BitVec w) : popcount (u ^^^ v) ≤ popcount u + popcount v := by
  have := countTrue_xor_le u.getLsbD v.getLsbD w
  rwa [popcount, countTrue_congr (g := fun i => u.getLsbD i ^^ v.getLsbD i) (by simp)]

/-- The triangle inequality of the Hamming distance (R18). -/
theorem popcount_xor_triangle {w : Nat} (a b c : BitVec w) :
    popcount (a ^^^ c) ≤ popcount (a ^^^ b) + popcount (b ^^^ c) := by
  have h : a ^^^ c = (a ^^^ b) ^^^ (b ^^^ c) := by
    rw [BitVec.xor_assoc, ← BitVec.xor_assoc b b c, BitVec.xor_self, BitVec.zero_xor]
  rw [h]; exact popcount_xor_le _ _

theorem popcount_zero {w : Nat} : popcount (0#w) = 0 := by
  have h : ∀ n, countTrue (fun i => (0#w).getLsbD i) n = 0 := by
    intro n; induction n with
    | zero => rfl
    | succ n ih => rw [countTrue, ih]; simp
  exact h w

@[simp] theorem parityOver_nil (d : Nat → Bool) : parityOver [] d = false := rfl

@[simp] theorem parityOver_cons (i : Nat) (l : List Nat) (d : Nat → Bool) :
    parityOver (i :: l) d = (d i ^^ parityOver l d) := rfl

/-- A parity check is linear. -/
theorem parityOver_xor (l : List Nat) (d e : Nat → Bool) :
    parityOver l (fun i => d i ^^ e i) = (parityOver l d ^^ parityOver l e) := by
  induction l with
  | nil => rfl
  | cons i l ih => simp only [parityOver_cons, ih]; cases d i <;> cases e i <;> simp

/-- A syndrome is linear (R193: "both codes are linear"). -/
theorem syndrome_xor (h : HammingCode) (d e : Nat → Bool) :
    syndrome h (fun i => d i ^^ e i) = syndrome h d ^^^ syndrome h e := by
  apply BitVec.eq_of_getLsbD_eq
  intro j hj
  simp [syndrome, parityOver_xor, hj]

/-- The syndrome of a line of the matrix is linear in the matrix. -/
theorem lineSyndrome_xor (h : HammingCode) (idx : Nat → Nat) (m n : Matrix) :
    lineSyndrome h idx (m ^^^ n) = lineSyndrome h idx m ^^^ lineSyndrome h idx n := by
  simp [lineSyndrome, syndrome_xor]

end Sys2Proof.Machine
end

