-- ==== Sys2Proof/Laws/State.lean ====
section
/-! SUPPORT. One lemma per field for each named update of State and of STATUS. -/

namespace Sys2Proof.Machine

@[simp] theorem State.setStatus_cmd (s : State) (v : Status) : (s.setStatus v).cmd = s.cmd := rfl
@[simp] theorem State.setStatus_status (s : State) (v : Status) : (s.setStatus v).status = v := rfl
@[simp] theorem State.setStatus_ccfilt (s : State) (v : Status) : (s.setStatus v).ccfilt = s.ccfilt := rfl
@[simp] theorem State.setStatus_clsr (s : State) (v : Status) : (s.setStatus v).clsr = s.clsr := rfl
@[simp] theorem State.setStatus_str (s : State) (v : Status) : (s.setStatus v).str = s.str := rfl
@[simp] theorem State.setStatus_bptcr (s : State) (v : Status) : (s.setStatus v).bptcr = s.bptcr := rfl
@[simp] theorem State.setStatus_rsr (s : State) (v : Status) : (s.setStatus v).rsr = s.rsr := rfl
@[simp] theorem State.setStatus_crcr (s : State) (v : Status) : (s.setStatus v).crcr = s.crcr := rfl
@[simp] theorem State.setStatus_burst (s : State) (v : Status) : (s.setStatus v).burst = s.burst := rfl
@[simp] theorem State.setStatus_burst8 (s : State) (v : Status) : (s.setStatus v).burst8 = s.burst8 := rfl
@[simp] theorem State.setStatus_info (s : State) (v : Status) : (s.setStatus v).info = s.info := rfl
@[simp] theorem State.setStatus_inputs (s : State) (v : Status) : (s.setStatus v).inputs = s.inputs := rfl
@[simp] theorem State.setStatus_reads (s : State) (v : Status) : (s.setStatus v).reads = s.reads := rfl
@[simp] theorem State.setStatus_delay (s : State) (v : Status) : (s.setStatus v).delay = s.delay := rfl
@[simp] theorem State.setStatus_issues (s : State) (v : Status) : (s.setStatus v).issues = s.issues := rfl
@[simp] theorem State.setStatus_draws (s : State) (v : Status) : (s.setStatus v).draws = s.draws := rfl
@[simp] theorem State.setStatus_stream (s : State) (v : Status) : (s.setStatus v).stream = s.stream := rfl

@[simp] theorem State.setCcfilt_cmd (s : State) (v : Ccfilt) : (s.setCcfilt v).cmd = s.cmd := rfl
@[simp] theorem State.setCcfilt_status (s : State) (v : Ccfilt) : (s.setCcfilt v).status = s.status := rfl
@[simp] theorem State.setCcfilt_ccfilt (s : State) (v : Ccfilt) : (s.setCcfilt v).ccfilt = v := rfl
@[simp] theorem State.setCcfilt_clsr (s : State) (v : Ccfilt) : (s.setCcfilt v).clsr = s.clsr := rfl
@[simp] theorem State.setCcfilt_str (s : State) (v : Ccfilt) : (s.setCcfilt v).str = s.str := rfl
@[simp] theorem State.setCcfilt_bptcr (s : State) (v : Ccfilt) : (s.setCcfilt v).bptcr = s.bptcr := rfl
@[simp] theorem State.setCcfilt_rsr (s : State) (v : Ccfilt) : (s.setCcfilt v).rsr = s.rsr := rfl
@[simp] theorem State.setCcfilt_crcr (s : State) (v : Ccfilt) : (s.setCcfilt v).crcr = s.crcr := rfl
@[simp] theorem State.setCcfilt_burst (s : State) (v : Ccfilt) : (s.setCcfilt v).burst = s.burst := rfl
@[simp] theorem State.setCcfilt_burst8 (s : State) (v : Ccfilt) : (s.setCcfilt v).burst8 = s.burst8 := rfl
@[simp] theorem State.setCcfilt_info (s : State) (v : Ccfilt) : (s.setCcfilt v).info = s.info := rfl
@[simp] theorem State.setCcfilt_inputs (s : State) (v : Ccfilt) : (s.setCcfilt v).inputs = s.inputs := rfl
@[simp] theorem State.setCcfilt_reads (s : State) (v : Ccfilt) : (s.setCcfilt v).reads = s.reads := rfl
@[simp] theorem State.setCcfilt_delay (s : State) (v : Ccfilt) : (s.setCcfilt v).delay = s.delay := rfl
@[simp] theorem State.setCcfilt_issues (s : State) (v : Ccfilt) : (s.setCcfilt v).issues = s.issues := rfl
@[simp] theorem State.setCcfilt_draws (s : State) (v : Ccfilt) : (s.setCcfilt v).draws = s.draws := rfl
@[simp] theorem State.setCcfilt_stream (s : State) (v : Ccfilt) : (s.setCcfilt v).stream = s.stream := rfl

@[simp] theorem State.setClsr_cmd (s : State) (v : Clsr) : (s.setClsr v).cmd = s.cmd := rfl
@[simp] theorem State.setClsr_status (s : State) (v : Clsr) : (s.setClsr v).status = s.status := rfl
@[simp] theorem State.setClsr_ccfilt (s : State) (v : Clsr) : (s.setClsr v).ccfilt = s.ccfilt := rfl
@[simp] theorem State.setClsr_clsr (s : State) (v : Clsr) : (s.setClsr v).clsr = v := rfl
@[simp] theorem State.setClsr_str (s : State) (v : Clsr) : (s.setClsr v).str = s.str := rfl
@[simp] theorem State.setClsr_bptcr (s : State) (v : Clsr) : (s.setClsr v).bptcr = s.bptcr := rfl
@[simp] theorem State.setClsr_rsr (s : State) (v : Clsr) : (s.setClsr v).rsr = s.rsr := rfl
@[simp] theorem State.setClsr_crcr (s : State) (v : Clsr) : (s.setClsr v).crcr = s.crcr := rfl
@[simp] theorem State.setClsr_burst (s : State) (v : Clsr) : (s.setClsr v).burst = s.burst := rfl
@[simp] theorem State.setClsr_burst8 (s : State) (v : Clsr) : (s.setClsr v).burst8 = s.burst8 := rfl
@[simp] theorem State.setClsr_info (s : State) (v : Clsr) : (s.setClsr v).info = s.info := rfl
@[simp] theorem State.setClsr_inputs (s : State) (v : Clsr) : (s.setClsr v).inputs = s.inputs := rfl
@[simp] theorem State.setClsr_reads (s : State) (v : Clsr) : (s.setClsr v).reads = s.reads := rfl
@[simp] theorem State.setClsr_delay (s : State) (v : Clsr) : (s.setClsr v).delay = s.delay := rfl
@[simp] theorem State.setClsr_issues (s : State) (v : Clsr) : (s.setClsr v).issues = s.issues := rfl
@[simp] theorem State.setClsr_draws (s : State) (v : Clsr) : (s.setClsr v).draws = s.draws := rfl
@[simp] theorem State.setClsr_stream (s : State) (v : Clsr) : (s.setClsr v).stream = s.stream := rfl

@[simp] theorem State.setStr_cmd (s : State) (v : Str) : (s.setStr v).cmd = s.cmd := rfl
@[simp] theorem State.setStr_status (s : State) (v : Str) : (s.setStr v).status = s.status := rfl
@[simp] theorem State.setStr_ccfilt (s : State) (v : Str) : (s.setStr v).ccfilt = s.ccfilt := rfl
@[simp] theorem State.setStr_clsr (s : State) (v : Str) : (s.setStr v).clsr = s.clsr := rfl
@[simp] theorem State.setStr_str (s : State) (v : Str) : (s.setStr v).str = v := rfl
@[simp] theorem State.setStr_bptcr (s : State) (v : Str) : (s.setStr v).bptcr = s.bptcr := rfl
@[simp] theorem State.setStr_rsr (s : State) (v : Str) : (s.setStr v).rsr = s.rsr := rfl
@[simp] theorem State.setStr_crcr (s : State) (v : Str) : (s.setStr v).crcr = s.crcr := rfl
@[simp] theorem State.setStr_burst (s : State) (v : Str) : (s.setStr v).burst = s.burst := rfl
@[simp] theorem State.setStr_burst8 (s : State) (v : Str) : (s.setStr v).burst8 = s.burst8 := rfl
@[simp] theorem State.setStr_info (s : State) (v : Str) : (s.setStr v).info = s.info := rfl
@[simp] theorem State.setStr_inputs (s : State) (v : Str) : (s.setStr v).inputs = s.inputs := rfl
@[simp] theorem State.setStr_reads (s : State) (v : Str) : (s.setStr v).reads = s.reads := rfl
@[simp] theorem State.setStr_delay (s : State) (v : Str) : (s.setStr v).delay = s.delay := rfl
@[simp] theorem State.setStr_issues (s : State) (v : Str) : (s.setStr v).issues = s.issues := rfl
@[simp] theorem State.setStr_draws (s : State) (v : Str) : (s.setStr v).draws = s.draws := rfl
@[simp] theorem State.setStr_stream (s : State) (v : Str) : (s.setStr v).stream = s.stream := rfl

@[simp] theorem State.setBptcr_cmd (s : State) (v : Bptcr) : (s.setBptcr v).cmd = s.cmd := rfl
@[simp] theorem State.setBptcr_status (s : State) (v : Bptcr) : (s.setBptcr v).status = s.status := rfl
@[simp] theorem State.setBptcr_ccfilt (s : State) (v : Bptcr) : (s.setBptcr v).ccfilt = s.ccfilt := rfl
@[simp] theorem State.setBptcr_clsr (s : State) (v : Bptcr) : (s.setBptcr v).clsr = s.clsr := rfl
@[simp] theorem State.setBptcr_str (s : State) (v : Bptcr) : (s.setBptcr v).str = s.str := rfl
@[simp] theorem State.setBptcr_bptcr (s : State) (v : Bptcr) : (s.setBptcr v).bptcr = v := rfl
@[simp] theorem State.setBptcr_rsr (s : State) (v : Bptcr) : (s.setBptcr v).rsr = s.rsr := rfl
@[simp] theorem State.setBptcr_crcr (s : State) (v : Bptcr) : (s.setBptcr v).crcr = s.crcr := rfl
@[simp] theorem State.setBptcr_burst (s : State) (v : Bptcr) : (s.setBptcr v).burst = s.burst := rfl
@[simp] theorem State.setBptcr_burst8 (s : State) (v : Bptcr) : (s.setBptcr v).burst8 = s.burst8 := rfl
@[simp] theorem State.setBptcr_info (s : State) (v : Bptcr) : (s.setBptcr v).info = s.info := rfl
@[simp] theorem State.setBptcr_inputs (s : State) (v : Bptcr) : (s.setBptcr v).inputs = s.inputs := rfl
@[simp] theorem State.setBptcr_reads (s : State) (v : Bptcr) : (s.setBptcr v).reads = s.reads := rfl
@[simp] theorem State.setBptcr_delay (s : State) (v : Bptcr) : (s.setBptcr v).delay = s.delay := rfl
@[simp] theorem State.setBptcr_issues (s : State) (v : Bptcr) : (s.setBptcr v).issues = s.issues := rfl
@[simp] theorem State.setBptcr_draws (s : State) (v : Bptcr) : (s.setBptcr v).draws = s.draws := rfl
@[simp] theorem State.setBptcr_stream (s : State) (v : Bptcr) : (s.setBptcr v).stream = s.stream := rfl

@[simp] theorem State.setRsr_cmd (s : State) (v : Rsr) : (s.setRsr v).cmd = s.cmd := rfl
@[simp] theorem State.setRsr_status (s : State) (v : Rsr) : (s.setRsr v).status = s.status := rfl
@[simp] theorem State.setRsr_ccfilt (s : State) (v : Rsr) : (s.setRsr v).ccfilt = s.ccfilt := rfl
@[simp] theorem State.setRsr_clsr (s : State) (v : Rsr) : (s.setRsr v).clsr = s.clsr := rfl
@[simp] theorem State.setRsr_str (s : State) (v : Rsr) : (s.setRsr v).str = s.str := rfl
@[simp] theorem State.setRsr_bptcr (s : State) (v : Rsr) : (s.setRsr v).bptcr = s.bptcr := rfl
@[simp] theorem State.setRsr_rsr (s : State) (v : Rsr) : (s.setRsr v).rsr = v := rfl
@[simp] theorem State.setRsr_crcr (s : State) (v : Rsr) : (s.setRsr v).crcr = s.crcr := rfl
@[simp] theorem State.setRsr_burst (s : State) (v : Rsr) : (s.setRsr v).burst = s.burst := rfl
@[simp] theorem State.setRsr_burst8 (s : State) (v : Rsr) : (s.setRsr v).burst8 = s.burst8 := rfl
@[simp] theorem State.setRsr_info (s : State) (v : Rsr) : (s.setRsr v).info = s.info := rfl
@[simp] theorem State.setRsr_inputs (s : State) (v : Rsr) : (s.setRsr v).inputs = s.inputs := rfl
@[simp] theorem State.setRsr_reads (s : State) (v : Rsr) : (s.setRsr v).reads = s.reads := rfl
@[simp] theorem State.setRsr_delay (s : State) (v : Rsr) : (s.setRsr v).delay = s.delay := rfl
@[simp] theorem State.setRsr_issues (s : State) (v : Rsr) : (s.setRsr v).issues = s.issues := rfl
@[simp] theorem State.setRsr_draws (s : State) (v : Rsr) : (s.setRsr v).draws = s.draws := rfl
@[simp] theorem State.setRsr_stream (s : State) (v : Rsr) : (s.setRsr v).stream = s.stream := rfl

@[simp] theorem State.setCrcr_cmd (s : State) (v : Crcr) : (s.setCrcr v).cmd = s.cmd := rfl
@[simp] theorem State.setCrcr_status (s : State) (v : Crcr) : (s.setCrcr v).status = s.status := rfl
@[simp] theorem State.setCrcr_ccfilt (s : State) (v : Crcr) : (s.setCrcr v).ccfilt = s.ccfilt := rfl
@[simp] theorem State.setCrcr_clsr (s : State) (v : Crcr) : (s.setCrcr v).clsr = s.clsr := rfl
@[simp] theorem State.setCrcr_str (s : State) (v : Crcr) : (s.setCrcr v).str = s.str := rfl
@[simp] theorem State.setCrcr_bptcr (s : State) (v : Crcr) : (s.setCrcr v).bptcr = s.bptcr := rfl
@[simp] theorem State.setCrcr_rsr (s : State) (v : Crcr) : (s.setCrcr v).rsr = s.rsr := rfl
@[simp] theorem State.setCrcr_crcr (s : State) (v : Crcr) : (s.setCrcr v).crcr = v := rfl
@[simp] theorem State.setCrcr_burst (s : State) (v : Crcr) : (s.setCrcr v).burst = s.burst := rfl
@[simp] theorem State.setCrcr_burst8 (s : State) (v : Crcr) : (s.setCrcr v).burst8 = s.burst8 := rfl
@[simp] theorem State.setCrcr_info (s : State) (v : Crcr) : (s.setCrcr v).info = s.info := rfl
@[simp] theorem State.setCrcr_inputs (s : State) (v : Crcr) : (s.setCrcr v).inputs = s.inputs := rfl
@[simp] theorem State.setCrcr_reads (s : State) (v : Crcr) : (s.setCrcr v).reads = s.reads := rfl
@[simp] theorem State.setCrcr_delay (s : State) (v : Crcr) : (s.setCrcr v).delay = s.delay := rfl
@[simp] theorem State.setCrcr_issues (s : State) (v : Crcr) : (s.setCrcr v).issues = s.issues := rfl
@[simp] theorem State.setCrcr_draws (s : State) (v : Crcr) : (s.setCrcr v).draws = s.draws := rfl
@[simp] theorem State.setCrcr_stream (s : State) (v : Crcr) : (s.setCrcr v).stream = s.stream := rfl

@[simp] theorem State.setInfo_cmd (s : State) (v : Vector Word 3) : (s.setInfo v).cmd = s.cmd := rfl
@[simp] theorem State.setInfo_status (s : State) (v : Vector Word 3) : (s.setInfo v).status = s.status := rfl
@[simp] theorem State.setInfo_ccfilt (s : State) (v : Vector Word 3) : (s.setInfo v).ccfilt = s.ccfilt := rfl
@[simp] theorem State.setInfo_clsr (s : State) (v : Vector Word 3) : (s.setInfo v).clsr = s.clsr := rfl
@[simp] theorem State.setInfo_str (s : State) (v : Vector Word 3) : (s.setInfo v).str = s.str := rfl
@[simp] theorem State.setInfo_bptcr (s : State) (v : Vector Word 3) : (s.setInfo v).bptcr = s.bptcr := rfl
@[simp] theorem State.setInfo_rsr (s : State) (v : Vector Word 3) : (s.setInfo v).rsr = s.rsr := rfl
@[simp] theorem State.setInfo_crcr (s : State) (v : Vector Word 3) : (s.setInfo v).crcr = s.crcr := rfl
@[simp] theorem State.setInfo_burst (s : State) (v : Vector Word 3) : (s.setInfo v).burst = s.burst := rfl
@[simp] theorem State.setInfo_burst8 (s : State) (v : Vector Word 3) : (s.setInfo v).burst8 = s.burst8 := rfl
@[simp] theorem State.setInfo_info (s : State) (v : Vector Word 3) : (s.setInfo v).info = v := rfl
@[simp] theorem State.setInfo_inputs (s : State) (v : Vector Word 3) : (s.setInfo v).inputs = s.inputs := rfl
@[simp] theorem State.setInfo_reads (s : State) (v : Vector Word 3) : (s.setInfo v).reads = s.reads := rfl
@[simp] theorem State.setInfo_delay (s : State) (v : Vector Word 3) : (s.setInfo v).delay = s.delay := rfl
@[simp] theorem State.setInfo_issues (s : State) (v : Vector Word 3) : (s.setInfo v).issues = s.issues := rfl
@[simp] theorem State.setInfo_draws (s : State) (v : Vector Word 3) : (s.setInfo v).draws = s.draws := rfl
@[simp] theorem State.setInfo_stream (s : State) (v : Vector Word 3) : (s.setInfo v).stream = s.stream := rfl

@[simp] theorem State.setWdrop_cmd (s : State) (b : Bool) : (s.setWdrop b).cmd = s.cmd := rfl
@[simp] theorem State.setWdrop_status (s : State) (b : Bool) : (s.setWdrop b).status = { s.status with wdrop := b } := rfl
@[simp] theorem State.setWdrop_ccfilt (s : State) (b : Bool) : (s.setWdrop b).ccfilt = s.ccfilt := rfl
@[simp] theorem State.setWdrop_clsr (s : State) (b : Bool) : (s.setWdrop b).clsr = s.clsr := rfl
@[simp] theorem State.setWdrop_str (s : State) (b : Bool) : (s.setWdrop b).str = s.str := rfl
@[simp] theorem State.setWdrop_bptcr (s : State) (b : Bool) : (s.setWdrop b).bptcr = s.bptcr := rfl
@[simp] theorem State.setWdrop_rsr (s : State) (b : Bool) : (s.setWdrop b).rsr = s.rsr := rfl
@[simp] theorem State.setWdrop_crcr (s : State) (b : Bool) : (s.setWdrop b).crcr = s.crcr := rfl
@[simp] theorem State.setWdrop_burst (s : State) (b : Bool) : (s.setWdrop b).burst = s.burst := rfl
@[simp] theorem State.setWdrop_burst8 (s : State) (b : Bool) : (s.setWdrop b).burst8 = s.burst8 := rfl
@[simp] theorem State.setWdrop_info (s : State) (b : Bool) : (s.setWdrop b).info = s.info := rfl
@[simp] theorem State.setWdrop_inputs (s : State) (b : Bool) : (s.setWdrop b).inputs = s.inputs := rfl
@[simp] theorem State.setWdrop_reads (s : State) (b : Bool) : (s.setWdrop b).reads = s.reads := rfl
@[simp] theorem State.setWdrop_delay (s : State) (b : Bool) : (s.setWdrop b).delay = s.delay := rfl
@[simp] theorem State.setWdrop_issues (s : State) (b : Bool) : (s.setWdrop b).issues = s.issues := rfl
@[simp] theorem State.setWdrop_draws (s : State) (b : Bool) : (s.setWdrop b).draws = s.draws := rfl
@[simp] theorem State.setWdrop_stream (s : State) (b : Bool) : (s.setWdrop b).stream = s.stream := rfl

@[simp] theorem State.setStream_cmd (s : State) (n : Nat) : (s.setStream n).cmd = s.cmd := rfl
@[simp] theorem State.setStream_status (s : State) (n : Nat) : (s.setStream n).status = s.status := rfl
@[simp] theorem State.setStream_ccfilt (s : State) (n : Nat) : (s.setStream n).ccfilt = s.ccfilt := rfl
@[simp] theorem State.setStream_clsr (s : State) (n : Nat) : (s.setStream n).clsr = s.clsr := rfl
@[simp] theorem State.setStream_str (s : State) (n : Nat) : (s.setStream n).str = s.str := rfl
@[simp] theorem State.setStream_bptcr (s : State) (n : Nat) : (s.setStream n).bptcr = s.bptcr := rfl
@[simp] theorem State.setStream_rsr (s : State) (n : Nat) : (s.setStream n).rsr = s.rsr := rfl
@[simp] theorem State.setStream_crcr (s : State) (n : Nat) : (s.setStream n).crcr = s.crcr := rfl
@[simp] theorem State.setStream_burst (s : State) (n : Nat) : (s.setStream n).burst = s.burst := rfl
@[simp] theorem State.setStream_burst8 (s : State) (n : Nat) : (s.setStream n).burst8 = s.burst8 := rfl
@[simp] theorem State.setStream_info (s : State) (n : Nat) : (s.setStream n).info = s.info := rfl
@[simp] theorem State.setStream_inputs (s : State) (n : Nat) : (s.setStream n).inputs = s.inputs := rfl
@[simp] theorem State.setStream_reads (s : State) (n : Nat) : (s.setStream n).reads = s.reads := rfl
@[simp] theorem State.setStream_delay (s : State) (n : Nat) : (s.setStream n).delay = s.delay := rfl
@[simp] theorem State.setStream_issues (s : State) (n : Nat) : (s.setStream n).issues = s.issues := rfl
@[simp] theorem State.setStream_draws (s : State) (n : Nat) : (s.setStream n).draws = s.draws := rfl
@[simp] theorem State.setStream_stream (s : State) (n : Nat) : (s.setStream n).stream = n := rfl

@[simp] theorem State.pushRead_cmd (s : State) (v : Word) : (s.pushRead v).cmd = s.cmd := rfl
@[simp] theorem State.pushRead_status (s : State) (v : Word) : (s.pushRead v).status = s.status := rfl
@[simp] theorem State.pushRead_ccfilt (s : State) (v : Word) : (s.pushRead v).ccfilt = s.ccfilt := rfl
@[simp] theorem State.pushRead_clsr (s : State) (v : Word) : (s.pushRead v).clsr = s.clsr := rfl
@[simp] theorem State.pushRead_str (s : State) (v : Word) : (s.pushRead v).str = s.str := rfl
@[simp] theorem State.pushRead_bptcr (s : State) (v : Word) : (s.pushRead v).bptcr = s.bptcr := rfl
@[simp] theorem State.pushRead_rsr (s : State) (v : Word) : (s.pushRead v).rsr = s.rsr := rfl
@[simp] theorem State.pushRead_crcr (s : State) (v : Word) : (s.pushRead v).crcr = s.crcr := rfl
@[simp] theorem State.pushRead_burst (s : State) (v : Word) : (s.pushRead v).burst = s.burst := rfl
@[simp] theorem State.pushRead_burst8 (s : State) (v : Word) : (s.pushRead v).burst8 = s.burst8 := rfl
@[simp] theorem State.pushRead_info (s : State) (v : Word) : (s.pushRead v).info = s.info := rfl
@[simp] theorem State.pushRead_inputs (s : State) (v : Word) : (s.pushRead v).inputs = s.inputs := rfl
@[simp] theorem State.pushRead_reads (s : State) (v : Word) : (s.pushRead v).reads = v :: s.reads := rfl
@[simp] theorem State.pushRead_delay (s : State) (v : Word) : (s.pushRead v).delay = s.delay := rfl
@[simp] theorem State.pushRead_issues (s : State) (v : Word) : (s.pushRead v).issues = s.issues := rfl
@[simp] theorem State.pushRead_draws (s : State) (v : Word) : (s.pushRead v).draws = s.draws := rfl
@[simp] theorem State.pushRead_stream (s : State) (v : Word) : (s.pushRead v).stream = s.stream := rfl

@[simp] theorem State.complete_cmd (s : State) (err : ErrorCode) : (s.complete err).cmd = s.cmd := rfl
@[simp] theorem State.complete_status (s : State) (err : ErrorCode) : (s.complete err).status = s.status.completed s.cmd err := rfl
@[simp] theorem State.complete_ccfilt (s : State) (err : ErrorCode) : (s.complete err).ccfilt = s.ccfilt := rfl
@[simp] theorem State.complete_clsr (s : State) (err : ErrorCode) : (s.complete err).clsr = s.clsr := rfl
@[simp] theorem State.complete_str (s : State) (err : ErrorCode) : (s.complete err).str = s.str := rfl
@[simp] theorem State.complete_bptcr (s : State) (err : ErrorCode) : (s.complete err).bptcr = s.bptcr := rfl
@[simp] theorem State.complete_rsr (s : State) (err : ErrorCode) : (s.complete err).rsr = s.rsr := rfl
@[simp] theorem State.complete_crcr (s : State) (err : ErrorCode) : (s.complete err).crcr = s.crcr := rfl
@[simp] theorem State.complete_burst (s : State) (err : ErrorCode) : (s.complete err).burst = s.burst := rfl
@[simp] theorem State.complete_burst8 (s : State) (err : ErrorCode) : (s.complete err).burst8 = s.burst8 := rfl
@[simp] theorem State.complete_info (s : State) (err : ErrorCode) : (s.complete err).info = s.info := rfl
@[simp] theorem State.complete_inputs (s : State) (err : ErrorCode) : (s.complete err).inputs = s.inputs := rfl
@[simp] theorem State.complete_reads (s : State) (err : ErrorCode) : (s.complete err).reads = s.reads := rfl
@[simp] theorem State.complete_delay (s : State) (err : ErrorCode) : (s.complete err).delay = s.delay := rfl
@[simp] theorem State.complete_issues (s : State) (err : ErrorCode) : (s.complete err).issues = s.issues := rfl
@[simp] theorem State.complete_draws (s : State) (err : ErrorCode) : (s.complete err).draws = s.draws := rfl
@[simp] theorem State.complete_stream (s : State) (err : ErrorCode) : (s.complete err).stream = s.stream := rfl

@[simp] theorem State.issue_cmd (s : State) (v : Word) : (s.issue v).cmd = v := rfl
@[simp] theorem State.issue_status (s : State) (v : Word) : (s.issue v).status = s.status.issued := rfl
@[simp] theorem State.issue_ccfilt (s : State) (v : Word) : (s.issue v).ccfilt = s.ccfilt := rfl
@[simp] theorem State.issue_clsr (s : State) (v : Word) : (s.issue v).clsr = s.clsr := rfl
@[simp] theorem State.issue_str (s : State) (v : Word) : (s.issue v).str = s.str := rfl
@[simp] theorem State.issue_bptcr (s : State) (v : Word) : (s.issue v).bptcr = s.bptcr := rfl
@[simp] theorem State.issue_rsr (s : State) (v : Word) : (s.issue v).rsr = s.rsr := rfl
@[simp] theorem State.issue_crcr (s : State) (v : Word) : (s.issue v).crcr = s.crcr := rfl
@[simp] theorem State.issue_burst (s : State) (v : Word) : (s.issue v).burst = s.burst := rfl
@[simp] theorem State.issue_burst8 (s : State) (v : Word) : (s.issue v).burst8 = s.burst8 := rfl
@[simp] theorem State.issue_info (s : State) (v : Word) : (s.issue v).info = s.info := rfl
@[simp] theorem State.issue_inputs (s : State) (v : Word) : (s.issue v).inputs = s.inputs := rfl
@[simp] theorem State.issue_reads (s : State) (v : Word) : (s.issue v).reads = s.reads := rfl
@[simp] theorem State.issue_delay (s : State) (v : Word) : (s.issue v).delay = Config.coreDelay s.stream s.issues := rfl
@[simp] theorem State.issue_issues (s : State) (v : Word) : (s.issue v).issues = s.issues + 1 := rfl
@[simp] theorem State.issue_draws (s : State) (v : Word) : (s.issue v).draws = s.draws := rfl
@[simp] theorem State.issue_stream (s : State) (v : Word) : (s.issue v).stream = s.stream := rfl

@[simp] theorem State.issueNow_cmd (s : State) (v : Word) : (s.issueNow v).cmd = v := rfl
@[simp] theorem State.issueNow_status (s : State) (v : Word) : (s.issueNow v).status = s.status.issued := rfl
@[simp] theorem State.issueNow_ccfilt (s : State) (v : Word) : (s.issueNow v).ccfilt = s.ccfilt := rfl
@[simp] theorem State.issueNow_clsr (s : State) (v : Word) : (s.issueNow v).clsr = s.clsr := rfl
@[simp] theorem State.issueNow_str (s : State) (v : Word) : (s.issueNow v).str = s.str := rfl
@[simp] theorem State.issueNow_bptcr (s : State) (v : Word) : (s.issueNow v).bptcr = s.bptcr := rfl
@[simp] theorem State.issueNow_rsr (s : State) (v : Word) : (s.issueNow v).rsr = s.rsr := rfl
@[simp] theorem State.issueNow_crcr (s : State) (v : Word) : (s.issueNow v).crcr = s.crcr := rfl
@[simp] theorem State.issueNow_burst (s : State) (v : Word) : (s.issueNow v).burst = s.burst := rfl
@[simp] theorem State.issueNow_burst8 (s : State) (v : Word) : (s.issueNow v).burst8 = s.burst8 := rfl
@[simp] theorem State.issueNow_info (s : State) (v : Word) : (s.issueNow v).info = s.info := rfl
@[simp] theorem State.issueNow_inputs (s : State) (v : Word) : (s.issueNow v).inputs = s.inputs := rfl
@[simp] theorem State.issueNow_reads (s : State) (v : Word) : (s.issueNow v).reads = s.reads := rfl
@[simp] theorem State.issueNow_delay (s : State) (v : Word) : (s.issueNow v).delay = 0 := rfl
@[simp] theorem State.issueNow_issues (s : State) (v : Word) : (s.issueNow v).issues = s.issues + 1 := rfl
@[simp] theorem State.issueNow_draws (s : State) (v : Word) : (s.issueNow v).draws = s.draws := rfl
@[simp] theorem State.issueNow_stream (s : State) (v : Word) : (s.issueNow v).stream = s.stream := rfl

@[simp] theorem State.popInput_cmd (s : State) (rest : List HostOp) : (s.popInput rest).cmd = s.cmd := rfl
@[simp] theorem State.popInput_status (s : State) (rest : List HostOp) : (s.popInput rest).status = s.status := rfl
@[simp] theorem State.popInput_ccfilt (s : State) (rest : List HostOp) : (s.popInput rest).ccfilt = s.ccfilt := rfl
@[simp] theorem State.popInput_clsr (s : State) (rest : List HostOp) : (s.popInput rest).clsr = s.clsr := rfl
@[simp] theorem State.popInput_str (s : State) (rest : List HostOp) : (s.popInput rest).str = s.str := rfl
@[simp] theorem State.popInput_bptcr (s : State) (rest : List HostOp) : (s.popInput rest).bptcr = s.bptcr := rfl
@[simp] theorem State.popInput_rsr (s : State) (rest : List HostOp) : (s.popInput rest).rsr = s.rsr := rfl
@[simp] theorem State.popInput_crcr (s : State) (rest : List HostOp) : (s.popInput rest).crcr = s.crcr := rfl
@[simp] theorem State.popInput_burst (s : State) (rest : List HostOp) : (s.popInput rest).burst = s.burst := rfl
@[simp] theorem State.popInput_burst8 (s : State) (rest : List HostOp) : (s.popInput rest).burst8 = s.burst8 := rfl
@[simp] theorem State.popInput_info (s : State) (rest : List HostOp) : (s.popInput rest).info = s.info := rfl
@[simp] theorem State.popInput_inputs (s : State) (rest : List HostOp) : (s.popInput rest).inputs = rest := rfl
@[simp] theorem State.popInput_reads (s : State) (rest : List HostOp) : (s.popInput rest).reads = s.reads := rfl
@[simp] theorem State.popInput_delay (s : State) (rest : List HostOp) : (s.popInput rest).delay = if s.status.busy then s.delay - 1 else s.delay := rfl
@[simp] theorem State.popInput_issues (s : State) (rest : List HostOp) : (s.popInput rest).issues = s.issues := rfl
@[simp] theorem State.popInput_draws (s : State) (rest : List HostOp) : (s.popInput rest).draws = s.draws := rfl
@[simp] theorem State.popInput_stream (s : State) (rest : List HostOp) : (s.popInput rest).stream = s.stream := rfl

@[simp] theorem State.resetCore_cmd (s : State) : (s.resetCore).cmd = State.reset.cmd := rfl
@[simp] theorem State.resetCore_status (s : State) : (s.resetCore).status = State.reset.status := rfl
@[simp] theorem State.resetCore_ccfilt (s : State) : (s.resetCore).ccfilt = State.reset.ccfilt := rfl
@[simp] theorem State.resetCore_clsr (s : State) : (s.resetCore).clsr = State.reset.clsr := rfl
@[simp] theorem State.resetCore_str (s : State) : (s.resetCore).str = State.reset.str := rfl
@[simp] theorem State.resetCore_bptcr (s : State) : (s.resetCore).bptcr = State.reset.bptcr := rfl
@[simp] theorem State.resetCore_rsr (s : State) : (s.resetCore).rsr = State.reset.rsr := rfl
@[simp] theorem State.resetCore_crcr (s : State) : (s.resetCore).crcr = State.reset.crcr := rfl
@[simp] theorem State.resetCore_burst (s : State) : (s.resetCore).burst = State.reset.burst := rfl
@[simp] theorem State.resetCore_burst8 (s : State) : (s.resetCore).burst8 = State.reset.burst8 := rfl
@[simp] theorem State.resetCore_info (s : State) : (s.resetCore).info = State.reset.info := rfl
@[simp] theorem State.resetCore_inputs (s : State) : (s.resetCore).inputs = s.inputs := rfl
@[simp] theorem State.resetCore_reads (s : State) : (s.resetCore).reads = s.reads := rfl
@[simp] theorem State.resetCore_delay (s : State) : (s.resetCore).delay = State.reset.delay := rfl
@[simp] theorem State.resetCore_issues (s : State) : (s.resetCore).issues = s.issues := rfl
@[simp] theorem State.resetCore_draws (s : State) : (s.resetCore).draws = s.draws := rfl
@[simp] theorem State.resetCore_stream (s : State) : (s.resetCore).stream = s.stream := rfl

@[simp] theorem State.clearResults_cmd (s : State) : (s.clearResults).cmd = s.cmd := rfl
@[simp] theorem State.clearResults_status (s : State) : (s.clearResults).status = { s.status with wdrop := false } := rfl
@[simp] theorem State.clearResults_ccfilt (s : State) : (s.clearResults).ccfilt = s.ccfilt := rfl
@[simp] theorem State.clearResults_clsr (s : State) : (s.clearResults).clsr = .reset := rfl
@[simp] theorem State.clearResults_str (s : State) : (s.clearResults).str = .reset := rfl
@[simp] theorem State.clearResults_bptcr (s : State) : (s.clearResults).bptcr = .reset := rfl
@[simp] theorem State.clearResults_rsr (s : State) : (s.clearResults).rsr = .reset := rfl
@[simp] theorem State.clearResults_crcr (s : State) : (s.clearResults).crcr = .reset := rfl
@[simp] theorem State.clearResults_burst (s : State) : (s.clearResults).burst = s.burst := rfl
@[simp] theorem State.clearResults_burst8 (s : State) : (s.clearResults).burst8 = s.burst8 := rfl
@[simp] theorem State.clearResults_info (s : State) : (s.clearResults).info = s.info := rfl
@[simp] theorem State.clearResults_inputs (s : State) : (s.clearResults).inputs = s.inputs := rfl
@[simp] theorem State.clearResults_reads (s : State) : (s.clearResults).reads = s.reads := rfl
@[simp] theorem State.clearResults_delay (s : State) : (s.clearResults).delay = s.delay := rfl
@[simp] theorem State.clearResults_issues (s : State) : (s.clearResults).issues = s.issues := rfl
@[simp] theorem State.clearResults_draws (s : State) : (s.clearResults).draws = s.draws := rfl
@[simp] theorem State.clearResults_stream (s : State) : (s.clearResults).stream = s.stream := rfl

@[simp] theorem Status.issued_busy (f : Status) : (f.issued).busy = true := rfl
@[simp] theorem Status.issued_done (f : Status) : (f.issued).done = false := rfl
@[simp] theorem Status.issued_ok (f : Status) : (f.issued).ok = false := rfl
@[simp] theorem Status.issued_err (f : Status) : (f.issued).err = .none := rfl
@[simp] theorem Status.issued_lastop (f : Status) : (f.issued).lastop = f.lastop := rfl
@[simp] theorem Status.issued_wdrop (f : Status) : (f.issued).wdrop = f.wdrop := rfl

@[simp] theorem Status.completed_busy (f : Status) (cmd : Word) (err : ErrorCode) : (f.completed cmd err).busy = false := rfl
@[simp] theorem Status.completed_done (f : Status) (cmd : Word) (err : ErrorCode) : (f.completed cmd err).done = true := rfl
@[simp] theorem Status.completed_ok (f : Status) (cmd : Word) (err : ErrorCode) : (f.completed cmd err).ok = decide (err = .none) := rfl
@[simp] theorem Status.completed_err (f : Status) (cmd : Word) (err : ErrorCode) : (f.completed cmd err).err = err := rfl
@[simp] theorem Status.completed_lastop (f : Status) (cmd : Word) (err : ErrorCode) : (f.completed cmd err).lastop = cmd.extractLsb' 0 4 := rfl
@[simp] theorem Status.completed_wdrop (f : Status) (cmd : Word) (err : ErrorCode) : (f.completed cmd err).wdrop = f.wdrop := rfl

/-- Raising an error is completing with it (R271). -/
@[simp] theorem State.raise_eq_complete (s : State) (code : ErrorCode) : s.raise code = s.complete code := rfl

end Sys2Proof.Machine
end

