-- ==== Sys2Proof/Laws/Ops.lean ====
section
/-! SUPPORT. What each shared operation can do, said once: completing, host reads and writes, whose turn it is, and the
inversion of one step. -/

namespace Sys2Proof.Machine

/-- Completion writes STATUS and nothing else (R131). -/
theorem State.complete_eq (s : State) (err : ErrorCode) :
    s.complete err =
      { s with status := ⟨false, true, err = .none, err, s.cmd.extractLsb' 0 4, s.status.wdrop⟩ } := rfl

/-- The two outcomes of a host read (R73). -/
theorem State.hostRead_cases (s : State) (off : Nat) :
    (s.status.busy = true ∧ readableWhileBusy off = false ∧
        s.hostRead off = { s with reads := Config.anyRead s.stream s.draws :: s.reads, draws := s.draws + 1 }) ∨
      ((s.status.busy = false ∨ readableWhileBusy off = true) ∧
        s.hostRead off = { s with reads := s.windowRead off :: s.reads }) := by
  unfold State.hostRead
  cases s.status.busy <;> cases readableWhileBusy off <;> simp [State.pushRead]

/-- The three outcomes of a host write (R74). -/
theorem State.hostWrite_cases (s : State) (off : Nat) (v : Word) :
    (regAt off = none ∧ s.hostWrite off v = s) ∨
      (∃ r, regAt off = some r ∧ s.status.busy = true ∧ s.hostWrite off v = s.setWdrop true) ∨
      (∃ r, regAt off = some r ∧ s.status.busy = false ∧ s.hostWrite off v = s.writeReg v r) := by
  unfold State.hostWrite
  cases regAt off with
  | none => exact .inl ⟨rfl, rfl⟩
  | some r => cases h : s.status.busy <;> simp

/-- A host access is taken exactly where R72 defines one. -/
theorem guardAccess_eq_next {width off : Nat} {s t : State} :
    guardAccess width off s = .next t ↔ accessWellFormed width off = true ∧ t = s := by
  unfold guardAccess accessWellFormed
  by_cases h1 : width = 4 <;> by_cases h2 : off % 4 = 0 <;> by_cases h3 : 0x100 ≤ off <;>
    simp [h1, h2, h3, eq_comm]
  all_goals omega

/-- The four ways the turn can stand (R78, R131). -/
theorem State.turn_cases (s : State) :
    (s.status.busy = false ∧ s.inputs = [] ∧ s.turn = .idle) ∨
      (s.status.busy = true ∧ (s.inputs = [] ∨ s.delay = 0) ∧ s.turn = .core) ∨
      (∃ op rest, s.inputs = op :: rest ∧ (s.status.busy = false ∨ s.delay ≠ 0) ∧
        s.turn = .input op (s.popInput rest)) := by
  unfold State.turn
  cases hi : s.inputs with
  | nil => cases h : s.status.busy <;> simp
  | cons op rest =>
    cases h : s.status.busy
    · simp
    · by_cases hd : s.delay = 0 <;> simp [hd]

/-- Everything one step can do when it answers a next state. -/
theorem step_cases {s t : State} (h : step s = .next t) :
    (s.turn = .idle ∧ t = s) ∨
      (s.turn = .core ∧ ∃ i, decode s.cmd = .ok i ∧ exec i s = .next t) ∨
      (s.turn = .core ∧ ∃ code, decode s.cmd = .error code ∧ t = s.complete code) ∨
      (∃ op s', s.turn = .input op s' ∧ hostStep op s' = .next t) := by
  unfold step stepOf at h
  cases ht : s.turn with
  | idle => rw [ht] at h; cases h; exact .inl ⟨rfl, rfl⟩
  | core =>
    rw [ht] at h
    simp only [coreStepOf] at h
    cases hd : decode s.cmd with
    | ok i => rw [hd] at h; exact .inr (.inl ⟨rfl, i, rfl, h⟩)
    | error code => rw [hd] at h; cases h; exact .inr (.inr (.inl ⟨rfl, code, rfl, rfl⟩))
  | input op s' => rw [ht] at h; exact .inr (.inr (.inr ⟨op, s', rfl, h⟩))

/-- Everything a step of the agent outside the core can do when it answers a next state. -/
theorem hostStep_cases {op : HostOp} {s t : State} (h : hostStep op s = .next t) :
    (∃ width off, op = .read width off ∧ accessWellFormed width off = true ∧ t = s.hostRead off) ∨
      (∃ width off v, op = .write width off v ∧ accessWellFormed width off = true ∧ t = s.hostWrite off v) ∨
      (op = .wait ∧ t = s.hostPoll) ∨ (op = .reset ∧ t = s.resetCore) := by
  cases op with
  | read width off => exact .inl ⟨width, off, rfl, guardAccess_eq_next.mp h⟩
  | write width off v => exact .inr (.inl ⟨width, off, v, rfl, guardAccess_eq_next.mp h⟩)
  | wait => cases h; exact .inr (.inr (.inl ⟨rfl, rfl⟩))
  | reset => cases h; exact .inr (.inr (.inr ⟨rfl, rfl⟩))

/-! The address map of R71, offset by offset, and the value read there (R73). -/

@[simp] theorem regAt_id : regAt 0x000 = some .id := rfl
@[simp] theorem regAt_cmd : regAt 0x004 = some .cmd := rfl
@[simp] theorem regAt_status : regAt 0x008 = some .status := rfl
@[simp] theorem regAt_ccfilt : regAt 0x00C = some .ccfilt := rfl
@[simp] theorem regAt_clsr : regAt 0x010 = some .clsr := rfl
@[simp] theorem regAt_str : regAt 0x014 = some .str := rfl
@[simp] theorem regAt_bptcr : regAt 0x018 = some .bptcr := rfl
@[simp] theorem regAt_rsr : regAt 0x01C = some .rsr := rfl
@[simp] theorem regAt_crcr : regAt 0x020 = some .crcr := rfl

@[simp] theorem regAt_burst (k : Fin 9) : regAt (0x040 + 4 * k) = some (.burst k) := by fin_cases k <;> rfl

@[simp] theorem regAt_info (k : Fin 3) : regAt (0x080 + 4 * k) = some (.info k) := by fin_cases k <;> rfl

@[simp] theorem State.windowRead_id (s : State) : s.windowRead 0x000 = idValue := rfl
@[simp] theorem State.windowRead_cmd (s : State) : s.windowRead 0x004 = s.cmd := rfl
@[simp] theorem State.windowRead_status (s : State) : s.windowRead 0x008 = s.status.word := rfl
@[simp] theorem State.windowRead_ccfilt (s : State) : s.windowRead 0x00C = s.ccfilt.word := rfl
@[simp] theorem State.windowRead_clsr (s : State) : s.windowRead 0x010 = s.clsr.word := rfl
@[simp] theorem State.windowRead_str (s : State) : s.windowRead 0x014 = s.str.word := rfl
@[simp] theorem State.windowRead_bptcr (s : State) : s.windowRead 0x018 = s.bptcr.word := rfl
@[simp] theorem State.windowRead_rsr (s : State) : s.windowRead 0x01C = s.rsr.word := rfl
@[simp] theorem State.windowRead_crcr (s : State) : s.windowRead 0x020 = s.crcr.word := rfl

@[simp] theorem State.windowRead_burst (s : State) (k : Fin 9) : s.windowRead (0x040 + 4 * k) = s.burstWord k := by
  simp only [State.windowRead, regAt_burst, State.readReg]

@[simp] theorem State.windowRead_info (s : State) (k : Fin 3) : s.windowRead (0x080 + 4 * k) = s.infoWord k := by
  simp only [State.windowRead, regAt_info, State.readReg]

/-- Every mapped offset is a multiple of 4 inside the window (R71). -/
theorem regAt_some_bound {off : Nat} {r : Reg} (h : regAt off = some r) : off % 4 = 0 ∧ off < 0x100 := by
  have hm : off ∈ windowMap.map Prod.fst := by
    have hx : ∀ l : List (Nat × Reg), l.lookup off = some r → off ∈ l.map Prod.fst := by
      intro l
      induction l with
      | nil => simp
      | cons p l ih =>
        intro hl
        by_cases hp : off = p.1
        · simp [hp]
        · rw [List.lookup_cons, beq_eq_false_iff_ne.mpr hp] at hl
          exact List.mem_cons_of_mem _ (ih hl)
    exact hx _ h
  have hall : ∀ o ∈ windowMap.map Prod.fst, o % 4 = 0 ∧ o < 0x100 := by decide
  exact hall off hm

/-! The machine with the default constants is the configured machine at `const` (R7). -/

theorem exec_eq_execWith (i : Instr) (s : State) : exec i s = execWith const i s := by cases i <;> rfl

theorem step_eq_stepWith (s : State) : step s = stepWith const s := by
  rw [step, stepWith, show exec = execWith const from funext₂ exec_eq_execWith]

@[simp] theorem exec_nop (s : State) : exec .nop s = .next (s.complete .none) := rfl
@[simp] theorem exec_classify (s : State) : exec .classify s = .next (classify const s) := rfl
@[simp] theorem exec_slottype (s : State) : exec .slottype s = .next (slottype const s) := rfl
@[simp] theorem exec_bptc (s : State) : exec .bptc s = .next (bptc const s) := rfl
@[simp] theorem exec_rsdecNone (s : State) : exec .rsdecNone s = .next (rsdec const 0 s) := rfl
@[simp] theorem exec_rsdecVlc (s : State) : exec .rsdecVlc s = .next (rsdec const 0x969696 s) := rfl
@[simp] theorem exec_rsdecTlc (s : State) : exec .rsdecTlc s = .next (rsdec const 0x999999 s) := rfl
@[simp] theorem exec_crcchkVlc (s : State) : exec .crcchkVlc s = .next (crcchk24 const 0x969696 s) := rfl
@[simp] theorem exec_crcchkTlc (s : State) : exec .crcchkTlc s = .next (crcchk24 const 0x999999 s) := rfl
@[simp] theorem exec_crcchkPi (s : State) : exec .crcchkPi s = .next (crcchk16 const 0x6969 s) := rfl
@[simp] theorem exec_crcchkDh (s : State) : exec .crcchkDh s = .next (crcchk16 const 0xCCCC s) := rfl
@[simp] theorem exec_crcchkCsbk (s : State) : exec .crcchkCsbk s = .next (crcchk16 const 0xA5A5 s) := rfl
@[simp] theorem exec_clear (s : State) : exec .clear s = .next (s.clearResults.complete .none) := rfl

end Sys2Proof.Machine
end

