-- ==== Sys2Proof/Laws/PerInstr.lean ====
section
/-! SUPPORT. The word of each command: its RSV field is zero, its OP and SEL are legal, and its value is at most 0x55 (R105).
One lemma per constructor. -/

namespace Sys2Proof.Laws.LegalWord

/-- The encoded word has legal fields (R101 to R103) and is one of the words 0x00 to 0x55 (R105). -/
def Statement (i : Instr) : Prop := (commandFields (encode i)).wellFormed = true ∧ (encode i).toNat ≤ 0x55

theorem nop : Statement .nop := by unfold Statement; decide
theorem classify : Statement .classify := by unfold Statement; decide
theorem slottype : Statement .slottype := by unfold Statement; decide
theorem bptc : Statement .bptc := by unfold Statement; decide
theorem rsdecNone : Statement .rsdecNone := by unfold Statement; decide
theorem rsdecVlc : Statement .rsdecVlc := by unfold Statement; decide
theorem rsdecTlc : Statement .rsdecTlc := by unfold Statement; decide
theorem crcchkVlc : Statement .crcchkVlc := by unfold Statement; decide
theorem crcchkTlc : Statement .crcchkTlc := by unfold Statement; decide
theorem crcchkPi : Statement .crcchkPi := by unfold Statement; decide
theorem crcchkDh : Statement .crcchkDh := by unfold Statement; decide
theorem crcchkCsbk : Statement .crcchkCsbk := by unfold Statement; decide
theorem clear : Statement .clear := by unfold Statement; decide

end Sys2Proof.Laws.LegalWord
end

