-- ==== Sys2Proof/Laws/Platform.lean ====
section
/-! SUPPORT. The instances of a platform after each of its updates, as the list they are (60_exceptions R280). -/

namespace Sys2Proof.Machine

@[simp] theorem Platform.instances_setAt (p : Platform) (x : Instance) (n : Nat) :
    (p.setAt x n).instances = p.instances.set n x := by
  cases n <;> rfl

@[simp] theorem Platform.instances_map (p : Platform) (f : Instance → Instance) :
    (p.map f).instances = p.instances.map f := rfl

/-- Everything a step of the platform can do when it answers a next platform. -/
theorem Platform.stepAtWith_cases {k : Nat → Const} {p q : Platform} {n : Nat} (h : p.stepAtWith k n = .next q) :
    (p.instances[n]? = none ∧ q = p) ∨
      (∃ x s, p.instances[n]? = some x ∧ stepWith (k n) (x.core.setStream n) = .next s ∧
        q = p.setAt { x with core := s } n) := by
  unfold Platform.stepAtWith at h
  split at h
  · rename_i hn
    cases h
    exact .inl ⟨hn, rfl⟩
  · rename_i x hx
    split at h <;> cases h
    rename_i s hs
    exact .inr ⟨x, s, hx, hs, rfl⟩

end Sys2Proof.Machine
end

