-- ==== Sys2Proof/Laws/Results.lean ====
section
/-! SUPPORT. What each command's result operation can do, said once, as the exact next state: the registers it writes and
the completion. -/

namespace Sys2Proof.Machine

/-- CLASSIFY writes CLSR and completes (R150). -/
theorem classify_eq (k : Const) (s : State) :
    classify k s = (s.setClsr (clsrOf k (nearestSync k s.syncField))).complete
      (if (nearestSync k s.syncField).dist ≤ k.syncThreshold then .none else .classificationFailure) := by
  by_cases h : (nearestSync k s.syncField).dist ≤ k.syncThreshold <;> simp [classify, h]

/-- The three outcomes of SLOTTYPE (R171). -/
theorem slottypeResult_cases (s : State) (x : StResult) :
    (∃ dist, x = .fail dist ∧ slottypeResult s x =
        (s.setStr { Str.reset with nerr := BitVec.ofNat 3 (min dist 7) }).complete .slotTypeError) ∨
      (∃ d e, x = .ok d e ∧ s.ccfilt.en = true ∧ d.extractLsb' 4 4 ≠ s.ccfilt.ecc ∧ slottypeResult s x =
        (s.setStr ⟨d.extractLsb' 0 4, d.extractLsb' 4 4, BitVec.ofNat 3 e, false, true⟩).complete .ccMismatch) ∨
      (∃ d e, x = .ok d e ∧ (s.ccfilt.en = false ∨ d.extractLsb' 4 4 = s.ccfilt.ecc) ∧ slottypeResult s x =
        (s.setStr ⟨d.extractLsb' 0 4, d.extractLsb' 4 4, BitVec.ofNat 3 e, true, false⟩).complete .none) := by
  cases x with
  | fail dist => exact .inl ⟨dist, rfl, rfl⟩
  | ok d e =>
    by_cases h : s.ccfilt.en = true ∧ d.extractLsb' 4 4 ≠ s.ccfilt.ecc
    · exact .inr (.inl ⟨d, e, rfl, h.1, h.2, by simp [slottypeResult, h]⟩)
    · refine .inr (.inr ⟨d, e, rfl, ?_, by simp [slottypeResult, h]⟩)
      cases hen : s.ccfilt.en
      · exact .inl rfl
      · exact .inr (by simpa [hen] using h)

/-- BPTC writes BPTCR, on success INFO, and completes (R194). -/
theorem bptc_eq (k : Const) (s : State) :
    bptc k s = bptcResult k s (bptcDecode k (s.matrix k)).1 (bptcDecode k (s.matrix k)).2 := rfl

/-- The two outcomes of BPTC (R194). -/
theorem bptcResult_cases (k : Const) (s : State) (x : Correction) (passes : Nat) :
    (matrixOk k x.m = true ∧ bptcResult k s x passes =
        ((s.setBptcr ⟨BitVec.ofNat 8 x.flips, BitVec.ofNat 3 passes, true⟩).setInfo
          (packInfoBits (matrixInfo x.m))).complete .none) ∨
      (matrixOk k x.m = false ∧ bptcResult k s x passes =
        (s.setBptcr ⟨BitVec.ofNat 8 x.flips, BitVec.ofNat 3 passes, false⟩).complete .bptcUncorrectable) := by
  cases h : matrixOk k x.m <;> simp [bptcResult, h]

/-- The two outcomes of RSDEC (R224). -/
theorem rsdecResult_cases (m : BitVec 24) (s : State) (x : RsResult) :
    (∃ c n pos, x = .ok c n pos ∧ rsdecResult m s x =
        ((s.setInfo (packInfoBytes (maskChecks m c))).setRsr
          ⟨BitVec.ofNat 2 n, BitVec.ofNat 4 (pos.getD 0xF), true⟩).complete .none) ∨
      (x = .fail ∧ rsdecResult m s x = (s.setRsr ⟨3, 0xF, false⟩).complete .rsUncorrectable) := by
  cases x with
  | ok c n pos => exact .inl ⟨c, n, pos, rfl, rfl⟩
  | fail => exact .inr ⟨rfl, rfl⟩

/-- The two outcomes of RSDEC, by its decoding (R224). -/
theorem rsdec_cases (k : Const) (m : BitVec 24) (s : State) :
    (∃ c n pos, rsDecode k (maskChecks m s.infoBytes) = .ok c n pos ∧ rsdec k m s =
        ((s.setInfo (packInfoBytes (maskChecks m c))).setRsr
          ⟨BitVec.ofNat 2 n, BitVec.ofNat 4 (pos.getD 0xF), true⟩).complete .none) ∨
      (rsDecode k (maskChecks m s.infoBytes) = .fail ∧ rsdec k m s =
        (s.setRsr ⟨3, 0xF, false⟩).complete .rsUncorrectable) :=
  rsdecResult_cases m s _

/-- The two outcomes of BPTC, by its decoding (R194). -/
theorem bptc_cases (k : Const) (s : State) :
    (matrixOk k (bptcDecode k (s.matrix k)).1.m = true ∧ bptc k s =
        ((s.setBptcr ⟨BitVec.ofNat 8 (bptcDecode k (s.matrix k)).1.flips,
          BitVec.ofNat 3 (bptcDecode k (s.matrix k)).2, true⟩).setInfo
          (packInfoBits (matrixInfo (bptcDecode k (s.matrix k)).1.m))).complete .none) ∨
      (matrixOk k (bptcDecode k (s.matrix k)).1.m = false ∧ bptc k s =
        (s.setBptcr ⟨BitVec.ofNat 8 (bptcDecode k (s.matrix k)).1.flips,
          BitVec.ofNat 3 (bptcDecode k (s.matrix k)).2, false⟩).complete .bptcUncorrectable) :=
  bptcResult_cases k s _ _

/-- The information bits after INFO is written with a packed sequence are that sequence (R75). -/
theorem State.infoBit_of_packInfoBits {s : State} {x : BitSeq} (h : s.info = packInfoBits x) {k : Nat} (hk : k < 96) :
    s.infoBit k = x k := by
  have hw : ∀ j (hj : j < 3), (packInfoBits x)[j] = seqInt 32 x (32 * j) := by
    intro j hj; interval_cases j <;> rfl
  have hi : s.infoWord (k / 32) = seqInt 32 x (32 * (k / 32)) := by
    simp only [State.infoWord, show k / 32 < 3 by omega, dif_pos, h, hw]
  simp only [State.infoBit, hi, getLsbD_seqInt, show 32 * (k / 32) + (32 - 1 - (31 - k % 32)) = k by omega,
    show 31 - k % 32 < 32 by omega, decide_true, Bool.true_and]

/-- CRCCHK writes CRCR and completes (R252). -/
theorem crcchkResult_eq (s : State) (computed recv : BitVec 24) :
    crcchkResult s computed recv =
      (s.setCrcr ⟨computed, computed = recv⟩).complete (if computed = recv then .none else .crcMismatch) := by
  by_cases h : computed = recv <;> simp [crcchkResult, h]

end Sys2Proof.Machine
end

