-- ==== Sys2Proof/Laws/Rs.lean ====
section
/-! SUPPORT. The linearity of GF(2^8) multiplication and of the Reed-Solomon syndromes (44_rs R220, R222), and adding a byte
error twice. -/

namespace Sys2Proof.Machine

theorem gfMulTerms_xor_left (poly : BitVec 9) (a b c : Byte) (n : Nat) :
    gfMulTerms poly (a ^^^ b) c n = gfMulTerms poly a c n ^^^ gfMulTerms poly b c n := by
  induction n with
  | zero => simp [gfMulTerms]
  | succ n ih =>
    have h (x y z : Byte) : x ^^^ y = x ^^^ z ^^^ (y ^^^ z) := by
      rw [show x ^^^ z ^^^ (y ^^^ z) = x ^^^ y ^^^ (z ^^^ z) by ac_rfl, BitVec.xor_self, BitVec.xor_zero]
    simp only [gfMulTerms, ih, BitVec.getLsbD_xor]
    cases a.getLsbD n <;> cases b.getLsbD n <;> simp [BitVec.xor_assoc, ← h]
    all_goals first | rw [← BitVec.xor_assoc, ← h] | ac_rfl

/-- A product distributes over the sum of its left factors (R17). -/
theorem gfMul_xor_left (poly : BitVec 9) (a b c : Byte) :
    gfMul poly (a ^^^ b) c = gfMul poly a c ^^^ gfMul poly b c := gfMulTerms_xor_left poly a b c 8

/-- Horner's rule (R222) started from a sum is the sum of the value and of the start moved `b.length` places up. -/
theorem horner_xor (poly : BitVec 9) (x : Byte) (b : List Byte) (acc e : Byte) :
    b.foldl (fun acc y => gfMul poly acc x ^^^ y) (acc ^^^ e) =
      b.foldl (fun acc y => gfMul poly acc x ^^^ y) acc ^^^ (fun y => gfMul poly y x)^[b.length] e := by
  induction b generalizing acc e with
  | nil => rfl
  | cons y b ih =>
    have h : gfMul poly (acc ^^^ e) x ^^^ y = gfMul poly acc x ^^^ y ^^^ gfMul poly e x := by
      rw [gfMul_xor_left]; ac_rfl
    simp only [List.foldl_cons, h, ih, List.length_cons, Function.iterate_succ_apply]

/-- An error at byte `i` adds its value times `α^j` to the power `11 - i` to the syndrome (R220, R222). -/
theorem rsSyndrome_addByteError (k : Const) (j : Nat) (b : List Byte) (i : Nat) (e : Byte) (h : i < b.length) :
    rsSyndrome k j (addByteError b i e) =
      rsSyndrome k j b ^^^ (fun y => gfMul k.gfPoly y (gfExp k.gfPoly k.gfAlpha j))^[b.length - 1 - i] e := by
  unfold rsSyndrome addByteError
  generalize (0 : Byte) = acc
  induction b generalizing acc i with
  | nil => simp at h
  | cons y b ih =>
    cases i with
    | zero => simp [← BitVec.xor_assoc, horner_xor]
    | succ i =>
      have hi : i < b.length := by simpa using h
      have hl : (y :: b).length - 1 - (i + 1) = b.length - 1 - i := by simp; omega
      rw [List.modify_succ_cons, List.foldl_cons, List.foldl_cons, ih i hi, hl]

@[simp] theorem length_addByteError (b : List Byte) (i : Nat) (e : Byte) : (addByteError b i e).length = b.length := by
  simp [addByteError]

end Sys2Proof.Machine
end

