-- ==== Sys2Proof/Tests/Slice0.lean ====
section
/-! SUPPORT. The model's own tests, each on one step: the words of every command, ill-formed fields and accesses, the
vectors of 95_test_vectors, and for each statement with hypotheses a witness that meets them. -/

namespace Sys2Proof.Tests

open Sys2Proof.Machine

-- One theorem at a time: many kernel evaluations at once need a thread, with its stack, for each.
set_option Elab.async false

/-! ### States the tests start from -/

/-- Reset, then the nine BURST words written (R75, R107 `loadburst`). -/
def burstState (ws : List Word) : State :=
  (List.range 9).foldl (fun s k => s.hostWrite (0x040 + 4 * k) (ws.getD k 0)) State.reset

/-- Reset, then the three INFO words written (R107 `loadinfo`). -/
def infoState (a b c : Word) : State :=
  ((State.reset.hostWrite 0x080 a).hostWrite 0x084 b).hostWrite 0x088 c

/-- The burst of 95_test_vectors E-1. -/
def e1Words : List Word :=
  [0x17031338, 0x3F400848, 0x7670DC83, 0x446DFF57, 0xD75DF5DE, 0x32682D88, 0x6E810922, 0xF4C0CF87, 0xF3000000]

/-- The E-1 words with burst bit `i` inverted (R75). -/
def flipBurst (ws : List Word) (i : Nat) : List Word := ws.modify (i / 32) fun w => w ^^^ bitAt 32 (31 - i % 32)

/-- E-1 with the given burst bits inverted. -/
def e1Errors (bits : List Nat) : State := burstState (bits.foldl flipBurst e1Words)

/-- A burst with sync field `f` and every other bit 0 (95_test_vectors 2.2: BURST3[19:0] and BURST4[31:4]). -/
def syncState (f : BitVec 48) : State :=
  burstState [0, 0, 0, (f.extractLsb' 28 20).setWidth 32, (f.extractLsb' 0 28 ++ 0#4)]

/-- A burst with slot-type word `w` and every other bit 0 (R170), CCFILT written with `filter`. -/
def slotState (w : BitVec 20) (filter : Word) : State :=
  (burstState [0, 0, 0, 0#2 ++ w.extractLsb' 10 10 ++ 0#20, (w.extractLsb' 6 4).setWidth 32,
    w.extractLsb' 0 6 ++ 0#26]).hostWrite 0x00C filter

/-- The E-1 LC bytes with a check of three bytes (95_test_vectors V-RS-1). -/
def lcBytes (a b c : Byte) : List Byte := [0x00, 0x00, 0x00, 0x12, 0x34, 0x56, 0xAB, 0xCD, 0xEF, a, b, c]

/-- Reset with the 12 bytes in INFO. -/
def bytesState (b : List Byte) : State := { State.reset with info := packInfoBytes b }

/-- The state after one step on the command word `w`, and the reset state where the step stops. -/
def after (w : Nat) (s : State) : State :=
  match step (s.withFetchWord 32 w) with
  | .next t => t
  | .fault _ => State.reset
  | .refused _ => State.reset

/-- The outcome of a step is a next state whose registers at `offs` read `vals`. -/
def reads (o : Host.Outcome State Fault Refusal) (offs : List Nat) (vals : List Word) : Bool :=
  match o with
  | .next t => offs.map t.windowRead = vals
  | .fault _ => false
  | .refused _ => false

/-- One step on the command word `w`. -/
def run (w : Nat) (s : State) : Host.Outcome State Fault Refusal := step (s.withFetchWord 32 w)

/-! ### Decoding: each command's word bit by bit, RSV then SEL then OP (R101 to R105) -/

theorem test_decode_nop : decode 0b000000000000000000000000_0000_0000 = .ok .nop := by decide
theorem test_decode_classify : decode 0b000000000000000000000000_0000_0001 = .ok .classify := by decide
theorem test_decode_slottype : decode 0b000000000000000000000000_0000_0010 = .ok .slottype := by decide
theorem test_decode_bptc : decode 0b000000000000000000000000_0000_0011 = .ok .bptc := by decide
theorem test_decode_rsdec_none : decode 0b000000000000000000000000_0000_0100 = .ok .rsdecNone := by decide
theorem test_decode_rsdec_vlc : decode 0b000000000000000000000000_0001_0100 = .ok .rsdecVlc := by decide
theorem test_decode_rsdec_tlc : decode 0b000000000000000000000000_0010_0100 = .ok .rsdecTlc := by decide
theorem test_decode_crcchk_vlc : decode 0b000000000000000000000000_0001_0101 = .ok .crcchkVlc := by decide
theorem test_decode_crcchk_tlc : decode 0b000000000000000000000000_0010_0101 = .ok .crcchkTlc := by decide
theorem test_decode_crcchk_pi : decode 0b000000000000000000000000_0011_0101 = .ok .crcchkPi := by decide
theorem test_decode_crcchk_dh : decode 0b000000000000000000000000_0100_0101 = .ok .crcchkDh := by decide
theorem test_decode_crcchk_csbk : decode 0b000000000000000000000000_0101_0101 = .ok .crcchkCsbk := by decide
theorem test_decode_clear : decode 0b000000000000000000000000_0000_0110 = .ok .clear := by decide

/-- The interface's two functions on the table's numbering of a word. -/
theorem test_decodeTableWord : decodeTableWord 32 0x55 = some .crcchkCsbk ∧ decodeTableWord 32 0x65 = none ∧
    decodeTableWord 8 0x24 = some .rsdecTlc ∧ decodeTableWord 8 0x124 = none := by decide

/-! ### WellFormed: one ill-formed term for each check -/

theorem test_wf_legal : (⟨0, 0x5, 0x5⟩ : CommandFields).wellFormed = true := by decide
theorem test_wf_reserved : (⟨1, 0x0, 0x1⟩ : CommandFields).wellFormed = false := by decide
theorem test_wf_opcode : (⟨0, 0x0, 0x7⟩ : CommandFields).wellFormed = false := by decide
theorem test_wf_selector_none : (⟨0, 0x1, 0x3⟩ : CommandFields).wellFormed = false := by decide
theorem test_wf_selector_rsdec : (⟨0, 0x3, 0x4⟩ : CommandFields).wellFormed = false := by decide
theorem test_wf_selector_crcchk : (⟨0, 0x0, 0x5⟩ : CommandFields).wellFormed = false ∧
    (⟨0, 0x6, 0x5⟩ : CommandFields).wellFormed = false := by decide
theorem test_wf_access : (HostOp.read 4 0x0FC).wellFormed = true ∧ (HostOp.read 2 0x010).wellFormed = false ∧
    (HostOp.write 4 0x00A 0).wellFormed = false ∧ (HostOp.write 4 0x100 0).wellFormed = false := by decide

/-! ### NOP, CLEAR and illegal words (95_test_vectors V-CTL) -/

/-- V-CTL-1. -/
theorem test_nop : reads (run 0x00 State.reset) [0x008] [0x00000006] = true := by decide +kernel
/-- V-CTL-2, V-CTL-6. -/
theorem test_illegal_opcode : reads (run 0x07 State.reset) [0x008] [0x00000772] = true ∧
    reads (run 0x101 State.reset) [0x008] [0x00000172] = true := by decide +kernel
/-- V-CTL-3, V-CTL-4, V-CTL-5. -/
theorem test_illegal_selector : reads (run 0x13 State.reset) [0x008] [0x00000382] = true ∧
    reads (run 0x65 State.reset) [0x008] [0x00000582] = true ∧
    reads (run 0x05 State.reset) [0x008] [0x00000582] = true := by decide +kernel
/-- V-CTL-9: CLASSIFY of an all-zero field, with WDROP set before. -/
theorem test_classify_all_zero : reads (run 0x01 (State.reset.setWdrop true)) [0x008, 0x010] [0x00010112, 0x00002409] =
    true := by decide +kernel
/-- V-CTL-11, and the example of R135: CLEAR after a failed SLOTTYPE. -/
theorem test_clear : reads (run 0x06 (after 0x02 (slotState 0xE1B8C 0))) [0x008, 0x014, 0x010, 0x01C]
    [0x00000606, 0, 0x00000009, 0x00000F00] = true := by decide +kernel
/-- V-CTL-7, V-CTL-8: a write of BURST0 while BUSY. -/
theorem test_dropped_write : reads (hostStep (.write 4 0x040 0xFFFFFFFF) (State.reset.withFetchWord 32 0x01)) [0x008, 0x040]
    [0x00010001, 0] = true := by decide +kernel
/-- V-CTL-10. -/
theorem test_clear_wdrop : reads (hostStep (.write 4 0x008 0x00010000) (State.reset.setWdrop true)) [0x008] [0] = true := by
  decide +kernel

/-! ### CLASSIFY (V-CLS) -/

/-- V-CLS-3 and V-CLS-4: distance 6 is accepted, 7 is not. -/
theorem test_classify_threshold : reads (run 0x01 (syncState 0x755FD7DF75C8)) [0x010, 0x008] [0x01000600, 0x00000106] =
      true ∧
    reads (run 0x01 (syncState 0x755FD7DF7588)) [0x010, 0x008] [0x00000709, 0x00000112] = true := by decide +kernel
/-- V-CLS-5: a tie goes to the lower index. -/
theorem test_classify_tie : reads (run 0x01 (syncState 0x7F7D5DDDFD55)) [0x010] [0x01020502] = true := by decide +kernel

/-- R7: with SYNC_THRESHOLD 7 in CONST, V-CLS-4's field at distance 7 is accepted as pattern 0 (R150). -/
theorem test_other_constants : reads (execWith { const with syncThreshold := 7 } .classify (syncState 0x755FD7DF7588)) [0x010]
    [0x01000700] = true := by decide +kernel

/-! ### SLOTTYPE (V-GOL) -/

/-- V-GOL-1: the parity of the single-bit words. -/
theorem test_golay_parity : [0x01#8, 0x02#8, 0x04#8, 0x08#8, 0x10#8, 0x20#8, 0x40#8, 0x80#8].map golayPar =
    [0x8EB, 0x93E, 0xA97, 0xDC6, 0x367, 0x6CD, 0xD99, 0x3DA] := by decide +kernel
/-- V-GOL-4, V-GOL-5: 3 errors are corrected, 4 detected. -/
theorem test_slottype_bound : reads (run 0x02 (slotState 0x91F8D 0)) [0x014, 0x008] [0x00001311, 0x00000206] = true ∧
    reads (run 0x02 (slotState 0xE1B8C 0)) [0x014, 0x008] [0x00000400, 0x00000222] = true := by decide +kernel
/-- V-GOL-8, V-GOL-9: the colour-code filter. -/
theorem test_slottype_filter : reads (run 0x02 (slotState 0x11B8C 0x00000101)) [0x014] [0x00001011] = true ∧
    reads (run 0x02 (slotState 0x11B8C 0x00000102)) [0x014, 0x008] [0x00002011, 0x00000232] = true := by decide +kernel

/-! ### BPTC (V-BPTC) -/

/-- V-BPTC-5: one error per row and per column; INFO as in E-1. -/
theorem test_bptc_corrects : reads (run 0x03 (e1Errors [249, 205, 93, 49, 5, 225, 181, 69, 25, 245, 201, 89, 45]))
    [0x018, 0x080, 0x084, 0x088] [0x0001020D, 0x00000012, 0x3456ABCD, 0xEF1CD361] = true := by decide +kernel
/-- V-BPTC-7a: a miscorrection; V-BPTC-7b: a failure, INFO unchanged. -/
theorem test_bptc_rectangles : reads (run 0x03 (e1Errors [249, 234, 220, 205]))
      [0x018, 0x080, 0x084, 0x088] [0x00010305, 0x00C00012, 0x3456ABCD, 0xEF1CD361] = true ∧
    reads (run 0x03 (e1Errors [249, 234, 242, 227])) [0x018, 0x008, 0x080] [0x00000202, 0x00000342, 0] = true := by
  decide +kernel

/-! ### RSDEC (V-RS) -/

/-- V-RS-1: the parity of the E-1 LC bytes. -/
theorem test_rs_parity : rsParity const ((lcBytes 0 0 0).take 9) = (0x8A, 0x45, 0xF7) := by decide +kernel
/-- V-RS-2, fifth row (program P3), and V-RS-3, second row. -/
theorem test_rsdec_none : reads (run 0x04 (infoState 0x00000013 0x3456ABCD 0xEF8A45F7))
      [0x01C, 0x080] [0x00010301, 0x00000012] = true ∧
    reads (run 0x04 (infoState 0x00000013 0x3556ABCD 0xEF8A45F7)) [0x01C, 0x008] [0x00000F03, 0x00000452] = true := by
  decide +kernel
/-- The example of R224: byte 5 changed to 0xCB. -/
theorem test_rsdec_vlc : reads (run 0x14 (infoState 0x00000012 0x34CBABCD 0xEF1CD361)) [0x01C, 0x080, 0x084, 0x088]
    [0x00010501, 0x00000012, 0x3456ABCD, 0xEF1CD361] = true := by decide +kernel
/-- V-RS-1's Terminator-with-LC word, and the last row of V-RS-3. -/
theorem test_rsdec_tlc : reads (run 0x24 (infoState 0x00000012 0x3456ABCD 0xEF13DC6E)) [0x01C] [0x00010F00] = true ∧
    reads (run 0x24 (infoState 0x00000012 0x3456ABCD 0xEF1CD361)) [0x01C] [0x00000F03] = true := by decide +kernel

/-! ### CRCCHK (V-CRC) -/

/-- V-CRC-1, the bytes of "123456789". -/
theorem test_crc16 : crc16 const (fun i => (0x313233343536373839#72).getLsbD (71 - i)) 72 = 0xCE3C := by decide +kernel
/-- V-CRC-6, V-CRC-7. -/
theorem test_crcchk_vlc : reads (run 0x15 (infoState 0x00000012 0x3456ABCD 0xEF1CD361)) [0x020, 0x008]
      [0x011CD361, 0x00000506] = true ∧
    reads (run 0x15 (infoState 0x00000012 0x34D6ABCD 0xEF1CD361)) [0x020, 0x008] [0x00685D2A, 0x00000562] = true := by
  decide +kernel
/-- V-RS-1's Terminator-with-LC word. -/
theorem test_crcchk_tlc : reads (run 0x25 (infoState 0x00000012 0x3456ABCD 0xEF13DC6E)) [0x020] [0x0113DC6E] = true := by
  decide +kernel
/-- V-CRC-5, V-CRC-2. -/
theorem test_crcchk_pi : reads (run 0x35 (infoState 0x3D001234 0x56789ABC 0xDEF04BE0)) [0x020] [0x0000872C] = true ∧
    reads (run 0x35 (infoState 0 0 0x00009696)) [0x020] [0x01009696] = true := by decide +kernel
/-- V-CRC-4, V-CRC-2. -/
theorem test_crcchk_dh : reads (run 0x45 (infoState 0x3D001234 0x56789ABC 0xDEF04BE0)) [0x020] [0x00002289] = true ∧
    reads (run 0x45 (infoState 0 0 0x00003333)) [0x020] [0x01003333] = true := by decide +kernel
/-- V-CRC-3. -/
theorem test_crcchk_csbk : reads (run 0x55 (infoState 0x3D001234 0x56789ABC 0xDEF04BE0)) [0x020] [0x01004BE0] = true := by
  decide +kernel

/-! ### Witnesses: for each statement with hypotheses, a state and operands that meet all of them -/

/-- A command `w` pending, `op` the next input, and one input still to come before the core step. -/
def busyState (w : Nat) (op : HostOp) : State := { State.reset.withFetchWord 32 w with inputs := [op], delay := 1 }

/-- Nothing pending, and `op` the next input. -/
def idleState (op : HostOp) : State := { State.reset with inputs := [op] }

theorem witness_StepRunsTheDecodedCommand :
    (State.reset.withFetchWord 32 0x03).CoreTurn ∧ decode (State.reset.withFetchWord 32 0x03).cmd = .ok .bptc ∧
    ({ State.reset.withFetchWord 32 0x55 with inputs := [.wait] } : State).CoreTurn ∧
    decode (State.reset.withFetchWord 32 0x55).cmd = .ok .crcchkCsbk := by decide +kernel

theorem witness_StepRunsTheNextInput : (idleState (.read 4 0x000)).HostTurn (.read 4 0x000) [] ∧
    (busyState 0x01 .wait).HostTurn .wait [] ∧ State.reset.status.busy = false ∧ State.reset.inputs = [] := by
  decide +kernel

theorem witness_CmdWriteIssues : State.reset.status.busy = false := by decide

theorem witness_EveryCommandCompletes : Instr.nop ≠ .clear ∧ Instr.crcchkCsbk ≠ .clear := by decide

theorem witness_ErrorsComeFromTheirCommand : exec .bptc (e1Errors [56, 233]) = .next (bptc const (e1Errors [56, 233])) ∧
    (bptc const (e1Errors [56, 233])).status.err = .bptcUncorrectable := ⟨rfl, by decide +kernel⟩

theorem witness_NopOnlyCompletes : (State.reset.withFetchWord 32 0).CoreTurn ∧ (State.reset.withFetchWord 32 0).cmd = 0 := by
  decide +kernel

theorem witness_ClearResetsTheResults : exec .clear (State.reset.withFetchWord 32 6) =
      .next ((State.reset.withFetchWord 32 6).clearResults.complete .none) ∧
    (State.reset.withFetchWord 32 6).cmd = 0x00000006 := ⟨rfl, by decide +kernel⟩

theorem witness_IllegalWordChangesOnlyStatus :
    (State.reset.withFetchWord 32 0x101).CoreTurn ∧
    decode (State.reset.withFetchWord 32 0x101).cmd = .error .illegalOpcode ∧
    (State.reset.withFetchWord 32 0x101).cmd.extractLsb' 8 24 ≠ 0 ∧
    (State.reset.withFetchWord 32 0x13).CoreTurn ∧
    decode (State.reset.withFetchWord 32 0x13).cmd = .error .illegalSelector := by decide +kernel

theorem witness_RegistersHeldWhileBusy : (busyState 0x01 (.write 4 0x040 5)).status.busy = true ∧
    (busyState 0x01 (.write 4 0x040 5)).HostTurn (.write 4 0x040 5) [] ∧ (HostOp.write 4 0x040 5) ≠ .reset ∧
    reads (step (busyState 0x01 (.write 4 0x040 5))) [0x040] [0] = true := by decide +kernel

theorem witness_PendingCommandCompletes : (busyState 0x01 .wait).status.busy = true ∧
    ∀ op ∈ (busyState 0x01 .wait).inputs, op.wellFormed = true ∧ op ≠ .reset := by decide +kernel

theorem witness_CoreStepKeepsOperandsAndInputs :
    ({ State.reset.withFetchWord 32 0x00 with inputs := [.wait] } : State).CoreTurn ∧
    reads (step { State.reset.withFetchWord 32 0x00 with inputs := [.wait] }) [0x004] [0] = true := by decide +kernel

/-- Every clause of the frames runs, and the two commands that keep INFO on failure do fail somewhere. -/
theorem witness_CommandRegisterFrames : (∀ i : Instr, ∃ t, exec i State.reset = .next t) ∧
    exec .bptc (e1Errors [56, 233]) = .next (bptc const (e1Errors [56, 233])) ∧
    (bptc const (e1Errors [56, 233])).status.ok = false ∧
    exec .rsdecVlc (bytesState (lcBytes 0x8A 0x45 0xF7)) = .next (rsdec const 0x969696 (bytesState (lcBytes 0x8A 0x45 0xF7))) ∧
    (rsdec const 0x969696 (bytesState (lcBytes 0x8A 0x45 0xF7))).status.ok = false := by
  refine ⟨fun i => ?_, rfl, by decide +kernel, rfl, by decide +kernel⟩
  cases i <;> exact ⟨_, rfl⟩

theorem witness_CommandWindowFrames : exec .rsdecNone State.reset = .next (rsdec const 0 State.reset) ∧
    0x040 ∉ writtenOffsets .rsdecNone := ⟨rfl, by decide⟩

theorem witness_CommandsDependOnlyOnOperands :
    State.reset.SameOperands (State.reset.setRsr ⟨3, 0xF, false⟩) := by decide

theorem witness_BurstCommandsReadOnlyTheirBits :
    (∀ i, 108 ≤ i → i ≤ 155 → (e1Errors []).burstBit i = (e1Errors [107, 156]).burstBit i) ∧
    (e1Errors []).ccfilt = (e1Errors [97, 108]).ccfilt ∧
    (∀ i, 98 ≤ i → i ≤ 107 → (e1Errors []).burstBit i = (e1Errors [97, 108, 155, 166]).burstBit i) ∧
    (∀ i, 156 ≤ i → i ≤ 165 → (e1Errors []).burstBit i = (e1Errors [97, 108, 155, 166]).burstBit i) ∧
    (∀ i ≤ 97, (e1Errors []).burstBit i = (e1Errors [98, 165]).burstBit i) ∧
    (∀ i, 166 ≤ i → i ≤ 263 → (e1Errors []).burstBit i = (e1Errors [98, 165]).burstBit i) := by
  have h1 : ∀ i ≤ 155, 108 ≤ i → (e1Errors []).burstBit i = (e1Errors [107, 156]).burstBit i := by decide +kernel
  have h2 : ∀ i ≤ 107, 98 ≤ i → (e1Errors []).burstBit i = (e1Errors [97, 108, 155, 166]).burstBit i := by
    decide +kernel
  have h3 : ∀ i ≤ 165, 156 ≤ i → (e1Errors []).burstBit i = (e1Errors [97, 108, 155, 166]).burstBit i := by
    decide +kernel
  have h4 : ∀ i ≤ 263, 166 ≤ i → (e1Errors []).burstBit i = (e1Errors [98, 165]).burstBit i := by decide +kernel
  exact ⟨fun i a b => h1 i b a, by decide +kernel, fun i a b => h2 i b a, fun i a b => h3 i b a, by decide +kernel,
    fun i a b => h4 i b a⟩

theorem witness_ClassifyCorrectsFourBits : (syncState 0x755FD7DF75F8).syncDistance 0 = 4 ∧
    (syncState 0xD7557F5FF7F5).syncDistance 8 = 0 := by decide +kernel

/-- Both clauses of the filter hypothesis, and the boundary distance 3. -/
theorem witness_SlottypeAcceptsWithinThreeBits :
    (slotState 0x91F8D 0).slotDistance 0x11 = 3 ∧ (slotState 0x91F8D 0).ccfilt.en = false ∧
    (slotState 0x91F8D 0x101).slotDistance 0x11 = 3 ∧ (slotState 0x91F8D 0x101).ccfilt.en = true ∧
    (0x11#8).extractLsb' 4 4 = (slotState 0x91F8D 0x101).ccfilt.ecc := by decide +kernel

theorem witness_SlottypeFilterRejectsOtherColourCodes :
    (slotState 0x11B8C 0x102).slotDistance 0x11 ≤ 3 ∧ (slotState 0x11B8C 0x102).ccfilt.en = true ∧
    (0x11#8).extractLsb' 4 4 ≠ (slotState 0x11B8C 0x102).ccfilt.ecc := by decide +kernel

theorem witness_SlottypeRejectsFarWords : ∀ d : BitVec 8, 3 < (slotState 0xE1B8C 0x102).slotDistance d := by
  decide +kernel

theorem witness_SlottypeDetectsFourErrors : (slotState 0x11B83 0).slotDistance 0x11 = 4 := by decide +kernel

/-- The first and the last matrix bit: M[0] is burst bit 0, M[195] is raw bit 15 (195 * 181 mod 196), burst bit 15. -/
theorem witness_BptcMatrixIsTheInterleavedBlock : (e1Errors [0]).matrix const = (e1Errors []).matrix const ^^^ bitAt 196 0 ∧
    (e1Errors [15]).matrix const = (e1Errors []).matrix const ^^^ bitAt 196 195 := by decide +kernel

/-- A matrix that is decoded with success and one that is not: E-1 and V-BPTC-6b. -/
theorem witness_BptcAcceptsOnlyACheckingMatrix :
    matrixOk const (bptcDecode const ((e1Errors []).matrix const)).1.m = true ∧
    (bptcDecode const ((e1Errors []).matrix const)).2 = 1 ∧
    matrixOk const (bptcDecode const ((e1Errors [56, 233]).matrix const)).1.m = false := by decide +kernel

/-- No error, and V-BPTC-5's thirteen errors with M[0] inverted too. -/
theorem witness_BptcCorrectsOneErrorPerColumn : matrixOk const ((e1Errors []).matrix const) = true ∧
    (∀ c < 15, AtMostOneInColumn (0 : Matrix) c) ∧
    (e1Errors []).matrix const = (e1Errors []).matrix const ^^^ 0 ∧
    (∀ c < 15, AtMostOneInColumn ((e1Errors []).matrix const ^^^
      (e1Errors [0, 249, 205, 93, 49, 5, 225, 181, 69, 25, 245, 201, 89, 45]).matrix const) c) := by decide +kernel

/-- V-BPTC-6b: r9c4 and r12c4, the boundary rows. -/
theorem witness_BptcRejectsTwoParityRowErrors : matrixOk const ((e1Errors []).matrix const) = true ∧
    (e1Errors [56, 233]).matrix const =
      (e1Errors []).matrix const ^^^ bitAt 196 (colIdx 4 9) ^^^ bitAt 196 (colIdx 4 12) := by decide +kernel

theorem witness_BptcDecodingDependsOnlyOnTheErrors : matrixOk const ((e1Errors []).matrix const) = true := by decide +kernel

theorem witness_GfArithmeticByLogarithms : (0x01 : Byte) ≠ 0 ∧ (0xFF : Byte) ≠ 0 := by decide

theorem witness_RsCodewordsAreThoseWithTheirParity : (lcBytes 0x8A 0x45 0xF7).length = 12 := by decide

/-- V-RS-1: the word without a mask, with the Voice-LC-Header mask and with the Terminator-with-LC mask. -/
theorem witness_RsdecAcceptsACodeword :
    RsCodeword const (maskChecks 0 (bytesState (lcBytes 0x8A 0x45 0xF7)).infoBytes) ∧
    RsCodeword const (maskChecks 0x969696 (bytesState (lcBytes 0x1C 0xD3 0x61)).infoBytes) ∧
    RsCodeword const (maskChecks 0x999999 (bytesState (lcBytes 0x13 0xDC 0x6E)).infoBytes) := by decide +kernel

/-- V-RS-2: the first and the last byte, and V-RS-2's byte 9 on V-RS-1's Terminator-with-LC word. -/
theorem witness_RsdecCorrectsOneByte : RsCodeword const (lcBytes 0x8A 0x45 0xF7) ∧
    maskChecks 0 (bytesState (addByteError (lcBytes 0x8A 0x45 0xF7) 0 0x01)).infoBytes =
      addByteError (lcBytes 0x8A 0x45 0xF7) 0 0x01 ∧
    maskChecks 0x969696 (bytesState (addByteError (lcBytes 0x1C 0xD3 0x61) 11 0x80)).infoBytes =
      addByteError (lcBytes 0x8A 0x45 0xF7) 11 0x80 ∧
    maskChecks 0x999999 (bytesState (addByteError (lcBytes 0x13 0xDC 0x6E) 9 0x42)).infoBytes =
      addByteError (lcBytes 0x8A 0x45 0xF7) 9 0x42 := by decide +kernel

/-- V-RS-3, the first row, for each of the three masks. -/
theorem witness_RsdecRejectsTwoByteErrors : RsCodeword const (lcBytes 0x8A 0x45 0xF7) ∧
    ∀ p ∈ rsdecMasks,
      maskChecks p.2 (bytesState (maskChecks p.2 (addByteError (addByteError (lcBytes 0x8A 0x45 0xF7) 0 1) 1 1))).infoBytes =
        addByteError (addByteError (lcBytes 0x8A 0x45 0xF7) 0 1) 1 1 := by decide +kernel

/-- The word of the bytes 01, 02 after ten zeros: its first syndrome is 0 and its second is not. -/
def farWord : List Byte := [0, 0, 0, 0, 0, 0, 0, 0, 0, 0, 1, 2]

/-- `farWord` is more than one symbol from every codeword, for each of the three masks. -/
theorem witness_RsdecRejectsBeyondOneSymbol (p : Instr × BitVec 24) (hp : p ∈ rsdecMasks) (c : List Byte) (i : Nat) (e : Byte)
    (hc : RsCodeword const c) (hi : i < 12) :
    maskChecks p.2 (bytesState (maskChecks p.2 farWord)).infoBytes ≠ addByteError c i e := by
  intro h
  have hw : ∀ q ∈ rsdecMasks, maskChecks q.2 (bytesState (maskChecks q.2 farWord)).infoBytes = farWord := by decide +kernel
  rw [hw p hp] at h
  have hl : i < c.length := hc.1 ▸ hi
  have h1 := rsSyndrome_addByteError const 1 c i e hl
  have h2 := rsSyndrome_addByteError const 2 c i e hl
  rw [← h, hc.2 1 (by decide), show rsSyndrome const 1 farWord = 0 by decide +kernel, show (0 : Byte) = 0#8 from rfl, BitVec.zero_xor] at h1
  rw [← h, hc.2 2 (by decide), show (0 : Byte) = 0#8 from rfl, BitVec.zero_xor] at h2
  have hz : ∀ x : Byte, gfMul 0x11D x (gfExp 0x11D 0x02 1) = 0 → x = 0 := by decide +kernel
  have he : e = 0 := by
    revert h1
    generalize c.length - 1 - i = n
    induction n with
    | zero => exact fun h => h.symm
    | succ n ih =>
      intro h
      rw [Function.iterate_succ_apply'] at h
      exact ih (hz _ h.symm).symm
  have hf : Function.IsFixedPt (fun y : Byte => gfMul 0x11D y (gfExp 0x11D 0x02 2)) 0 := by decide +kernel
  rw [he] at h2
  exact absurd (h2.trans (hf.iterate _)) (by decide +kernel)

/-- V-CRC-3 with its first and its last bit changed. -/
theorem witness_CrcDetectsEverySingleBitError :
    (∀ i < 96, (infoState 0xBD001234 0x56789ABC 0xDEF04BE0).infoBit i =
      ((infoState 0x3D001234 0x56789ABC 0xDEF04BE0).infoBit i ^^ decide (i = 0))) ∧
    (∀ i < 96, (infoState 0x3D001234 0x56789ABC 0xDEF04BE1).infoBit i =
      ((infoState 0x3D001234 0x56789ABC 0xDEF04BE0).infoBit i ^^ decide (i = 95))) ∧
    (crcchk16 const 0xA5A5 (infoState 0x3D001234 0x56789ABC 0xDEF04BE0)).status.ok = true := by decide +kernel

/-- V-CRC-6 with its first and its last byte changed. -/
theorem witness_ParityDetectsEveryByteError :
    (infoState 0xFF000012 0x3456ABCD 0xEF1CD361).infoBytes =
      addByteError (infoState 0x00000012 0x3456ABCD 0xEF1CD361).infoBytes 0 0xFF ∧
    (infoState 0x00000012 0x3456ABCD 0xEF1CD360).infoBytes =
      addByteError (infoState 0x00000012 0x3456ABCD 0xEF1CD361).infoBytes 11 0x01 ∧
    (crcchk24 const 0x969696 (infoState 0x00000012 0x3456ABCD 0xEF1CD361)).status.ok = true := by decide +kernel

/-- Each of the five kinds is in its list with its mask (R103). -/
theorem witness_CrcchkComparesTheMaskedCheck : (.crcchkPi, 0x6969) ∈ crcchk16Masks ∧ (.crcchkDh, 0xCCCC) ∈ crcchk16Masks ∧
    (.crcchkCsbk, 0xA5A5) ∈ crcchk16Masks ∧ (.crcchkVlc, 0x969696) ∈ crcchk24Masks ∧
    (.crcchkTlc, 0x999999) ∈ crcchk24Masks := by decide

/-- Both kinds, and both outcomes of RSDEC. -/
theorem witness_CrcchkPassesExactlyAfterSuccessfulRsdec :
    (.rsdecVlc, 0x969696) ∈ rsdecMasks ∧ (.crcchkVlc, 0x969696) ∈ crcchk24Masks ∧
    (.rsdecTlc, 0x999999) ∈ rsdecMasks ∧ (.crcchkTlc, 0x999999) ∈ crcchk24Masks ∧
    (rsdec const 0x969696 (bytesState (lcBytes 0x1C 0xD3 0x61))).status.ok = true ∧
    (rsdec const 0x999999 (bytesState (lcBytes 0x1C 0xD3 0x61))).status.ok = false := by decide +kernel

/-- V-CRC-3. -/
theorem witness_CrcKindsExclude : (.crcchkCsbk, 0xA5A5) ∈ crcchk16Masks ∧ (.crcchkDh, 0xCCCC) ∈ crcchk16Masks ∧
    (crcchk16 const 0xA5A5 (infoState 0x3D001234 0x56789ABC 0xDEF04BE0)).status.ok = true := by decide +kernel

/-- The clauses' boundary values; no access falls under two of them with two outcomes (width before alignment before
window). -/
theorem witness_UndefinedAccessesStop :
    (match hostStep (.read 2 0x101) State.reset with | .refused r => decide (r = .undefinedWidth) | _ => false) = true ∧
    (match hostStep (.write 4 0x0FD 0) State.reset with | .refused r => decide (r = .misaligned) | _ => false) = true ∧
    (match hostStep (.read 4 0x100) State.reset with | .fault r => decide (r = .outsideWindow) | _ => false) = true := by
  decide +kernel

/-- The clauses of reading and writing: a busy core and a mapped or an unmapped offset, an idle one likewise, STATUS while
BUSY. -/
theorem witness_HostReadHasNoSideEffect : (busyState 0x01 .wait).status.busy = true ∧ State.reset.status.busy = false ∧
    regAt 0x024 = none ∧ regAt 0x0FC = none ∧ regAt 0x008 = some .status ∧ regAt 0x088 = some (.info 2) := by
  decide +kernel

theorem witness_IdIsConstant : (busyState 0x01 .wait).status.busy = true ∧ State.reset.status.busy = false := by
  decide +kernel

theorem witness_HostWriteByRegister : State.reset.status.busy = false ∧ (busyState 0x01 .wait).status.busy = true ∧
    Unmapped 0x024 ∧ Unmapped 0x0FC ∧ ¬Unmapped 0x020 ∧ ¬Unmapped 0x060 ∧ ¬Unmapped 0x088 := by decide +kernel

theorem witness_WriteWhileBusyIsDropped : (busyState 0x01 .wait).status.busy = true ∧ regAt 0x0FC = none ∧
    regAt 0x000 = some .id := by decide +kernel

/-- WDROP set by a dropped write; cleared by CLEAR, by a reset and by a write of STATUS. -/
theorem witness_WdropIsSticky :
    reads (step (busyState 0x01 (.write 4 0x040 5))) [0x008] [0x00010001] = true ∧
    reads (step ((State.reset.setWdrop true).withFetchWord 32 6)) [0x008] [0x00000606] = true ∧
    reads (step ((idleState .reset).setWdrop true)) [0x008] [0] = true ∧
    reads (step ((idleState (.write 4 0x008 0x00010000)).setWdrop true)) [0x008] [0] = true := by decide +kernel

/-- Burst bit 263 is bit 24 of BURST8, info bit 0 is bit 31 of INFO0 (R75). -/
theorem witness_RegisterBitsInTransmissionOrder : State.reset.status.busy = false ∧
    (State.reset.hostWrite 0x060 0x01000000).burstBit 263 = true ∧
    (State.reset.hostWrite 0x080 0x80000000).infoBit 0 = true := by decide +kernel

/-- Info byte 11 is INFO2[7:0], info byte 0 is INFO0[31:24] (R75). -/
theorem witness_BitsAndBytesInTheWindow : (infoState 0 0 0xAB).infoByte 11 = 0xAB ∧
    (infoState 0xCD000000 0 0).infoByte 0 = 0xCD ∧ (burstState [0x80000000]).burstBit 0 = true := by decide +kernel

theorem witness_ResetValues : 0x024 % 4 = 0 ∧ Unmapped 0x024 ∧ Unmapped 0x0FC := by decide

theorem witness_ResetDiscardsThePendingCommand : (busyState 0x01 .reset).HostTurn .reset [] := by decide +kernel

/-- A legal state that is not the reset state: after the failed CLASSIFY of an all-zero field. -/
theorem witness_StepKeepsLegal : (after 0x01 State.reset).Legal ∧ (after 0x01 State.reset).clsr.dist = 36 := by
  decide +kernel

/-- Two instances with touching windows, each with a read of ID to come. -/
def twoInstances : Platform := ⟨⟨0x1000, idleState (.read 4 0x000)⟩, [⟨0x1100, idleState (.read 4 0x000)⟩]⟩

/-- The step of instance 1 answers a next platform; an address in the first window. -/
theorem witness_InstancesAreIsolated : twoInstances.Disjoint ∧
    twoInstances.instances[0]? = some ⟨0x1000, idleState (.read 4 0x000)⟩ ∧
    twoInstances.instances[1]? = some ⟨0x1100, idleState (.read 4 0x000)⟩ ∧
    (⟨0x1000, idleState (.read 4 0x000)⟩ : Instance).holds 0x10FC = true ∧
    (∃ q, twoInstances.stepAt 1 = .next q) := by
  refine ⟨by decide, rfl, rfl, by decide, ⟨_, rfl⟩⟩

end Sys2Proof.Tests
end

section
/-! SUPPORT. GF(2^8) by logarithms (00_scope R17): the iteration of `xtime`, the powers of α = 0x02 as its iterates, LOG as the
inverse of EXP on the non-zero bytes, and the products and quotients of powers. -/

namespace Sys2Proof.Machine

/-! ### Multiplication by x and the distributive law, for every field polynomial -/

theorem xtime_xor (poly : BitVec 9) (a b : Byte) : xtime poly (a ^^^ b) = xtime poly a ^^^ xtime poly b := by
  have hshift : (a ^^^ b) <<< 1 = a <<< 1 ^^^ b <<< 1 := BitVec.shiftLeft_xor_distrib a b 1
  simp only [xtime, hshift, BitVec.msb_xor]
  cases a.msb <;> cases b.msb <;> simp [BitVec.xor_assoc]
  ac_rfl

@[simp] theorem xtime_zero (poly : BitVec 9) : xtime poly 0#8 = 0#8 := by simp [xtime]

theorem xtimes_eq_iterate (poly : BitVec 9) (n : Nat) (a : Byte) : xtimes poly n a = (xtime poly)^[n] a := by
  induction n with
  | zero => rfl
  | succ n ih => rw [xtimes, ih, Function.iterate_succ_apply']

theorem xtimes_xtime (poly : BitVec 9) (n : Nat) (a : Byte) : xtimes poly n (xtime poly a) = xtime poly (xtimes poly n a) := by
  rw [xtimes_eq_iterate, xtimes_eq_iterate, ← Function.iterate_succ_apply, Function.iterate_succ_apply']

theorem gfMulTerms_xtime (poly : BitVec 9) (a b : Byte) (n : Nat) :
    gfMulTerms poly a (xtime poly b) n = xtime poly (gfMulTerms poly a b n) := by
  induction n with
  | zero => simp [gfMulTerms]
  | succ n ih =>
    rw [gfMulTerms, gfMulTerms, ih, xtimes_xtime, xtime_xor]
    split <;> simp

/-- A product with `b` times x is the product with `b`, times x (R17). -/
theorem gfMul_xtime (poly : BitVec 9) (a b : Byte) : gfMul poly a (xtime poly b) = xtime poly (gfMul poly a b) :=
  gfMulTerms_xtime poly a b 8

theorem gfMul_iterate_xtime (poly : BitVec 9) (a b : Byte) (n : Nat) :
    gfMul poly a ((xtime poly)^[n] b) = (xtime poly)^[n] (gfMul poly a b) :=
  (Function.Semiconj.iterate_right (f := gfMul poly a) (gfMul_xtime poly a) n).eq b

@[simp] theorem zero_gfMul (poly : BitVec 9) (a : Byte) : gfMul poly 0#8 a = 0#8 := by simp [gfMul, gfMulTerms]

@[simp] theorem gfMul_zero (poly : BitVec 9) (a : Byte) : gfMul poly a 0#8 = 0#8 := by
  have h (n : Nat) : xtimes poly n 0#8 = 0#8 := by
    rw [xtimes_eq_iterate, Function.iterate_fixed (xtime_zero poly)]
  simp [gfMul, gfMulTerms, h]

theorem gfMul_two (poly : BitVec 9) (a : Byte) : gfMul poly 0x02 a = xtime poly a := by
  simp [gfMul, gfMulTerms, xtimes]

theorem gfMul_one (a : Byte) : gfMul 0x11D a 1 = a := by
  revert a; decide +kernel

/-! ### EXP, the powers of α = 0x02 -/

theorem gfExp_succ (poly : BitVec 9) (i : Nat) : gfExp poly 0x02 (i + 1) = xtime poly (gfExp poly 0x02 i) :=
  gfMul_two poly _

theorem gfExp_eq_iterate (poly : BitVec 9) (n : Nat) : gfExp poly 0x02 n = (xtime poly)^[n] 1 := by
  induction n with
  | zero => rfl
  | succ n ih => rw [gfExp_succ, ih, Function.iterate_succ_apply']

/-- The product of two powers of α adds their exponents. -/
theorem gfMul_gfExp (m n : Nat) :
    gfMul 0x11D (gfExp 0x11D 0x02 m) (gfExp 0x11D 0x02 n) = gfExp 0x11D 0x02 (m + n) := by
  rw [gfExp_eq_iterate _ n, gfMul_iterate_xtime, gfMul_one, gfExp_eq_iterate, ← Function.iterate_add_apply, Nat.add_comm,
    ← gfExp_eq_iterate]

/-- R13: the order of α divides 255. -/
theorem gfExp_255 : gfExp 0x11D 0x02 255 = 1 := by decide +kernel

theorem gfExp_periodic : Function.Periodic (gfExp 0x11D 0x02) 255 := fun n => by
  rw [← gfMul_gfExp, gfExp_255, gfMul_one]

theorem gfExp_mod (n : Nat) : gfExp 0x11D 0x02 (n % 255) = gfExp 0x11D 0x02 n := gfExp_periodic.map_mod_nat n

/-- R13: α is primitive, so every non-zero byte is one of its first 255 powers. -/
theorem exists_gfExp_eq {a : Byte} (ha : a ≠ 0) : ∃ j < 255, gfExp 0x11D 0x02 j = a := by
  have hall : ∀ x : Byte, x ≠ 0 → x ∈ List.iterate (xtime 0x11D) 1 255 := by decide +kernel
  obtain ⟨j, hj, rfl⟩ := List.mem_iterate.mp (hall a ha)
  exact ⟨j, hj, gfExp_eq_iterate _ j⟩

/-! ### LOG, the inverse of EXP -/

/-- The search for `x` from `α^i` ends at a power that equals `x` where one stands among the next `fuel`. -/
theorem gfLogFrom_spec {poly : BitVec 9} {alpha x : Byte} {fuel i j : Nat} (hj : j < fuel)
    (hx : gfExp poly alpha (i + j) = x) :
    gfExp poly alpha (gfLogFrom poly alpha x fuel (gfExp poly alpha i) i) = x ∧
      gfLogFrom poly alpha x fuel (gfExp poly alpha i) i < i + fuel := by
  induction fuel generalizing i j with
  | zero => omega
  | succ fuel ih =>
    rw [gfLogFrom]
    split
    case isTrue hfound => exact ⟨hfound, by omega⟩
    case isFalse hne =>
      obtain _ | j := j
      · exact absurd hx hne
      · obtain ⟨hexp, hlt⟩ := ih (i := i + 1) (Nat.lt_of_succ_lt_succ hj) (by rwa [Nat.add_right_comm])
        exact ⟨hexp, hlt.trans_eq (by omega)⟩

theorem gfLog_spec {a : Byte} (ha : a ≠ 0) :
    gfExp 0x11D 0x02 (gfLog 0x11D 0x02 a) = a ∧ gfLog 0x11D 0x02 a < 255 := by
  obtain ⟨j, hj, hexp⟩ := exists_gfExp_eq ha
  exact gfLogFrom_spec (i := 0) hj (by rwa [Nat.zero_add])

/-! ### Products, quotients and the generator -/

theorem gfMul_eq_gfExp_gfLog {a b : Byte} (ha : a ≠ 0) (hb : b ≠ 0) :
    gfMul 0x11D a b = gfExp 0x11D 0x02 ((gfLog 0x11D 0x02 a + gfLog 0x11D 0x02 b) % 255) := by
  rw [gfExp_mod, ← gfMul_gfExp, (gfLog_spec ha).1, (gfLog_spec hb).1]

theorem gfMul_gfDiv (a : Byte) {b : Byte} (hb : b ≠ 0) : gfMul 0x11D (gfDiv 0x11D 0x02 a b) b = a := by
  obtain ⟨hexpb, hltb⟩ := gfLog_spec hb
  by_cases ha : a = 0
  · simp [gfDiv, ha]
  · have hsum : gfLog 0x11D 0x02 a + 255 - gfLog 0x11D 0x02 b + gfLog 0x11D 0x02 b = gfLog 0x11D 0x02 a + 255 := by omega
    calc gfMul 0x11D (gfDiv 0x11D 0x02 a b) b
        = gfMul 0x11D (gfExp 0x11D 0x02 (gfLog 0x11D 0x02 a + 255 - gfLog 0x11D 0x02 b))
            (gfExp 0x11D 0x02 (gfLog 0x11D 0x02 b)) := by rw [gfDiv, if_neg ha, gfExp_mod, hexpb]
      _ = gfExp 0x11D 0x02 (gfLog 0x11D 0x02 a + 255) := by rw [gfMul_gfExp, hsum]
      _ = a := by rw [gfExp_periodic, (gfLog_spec ha).1]

/-- R13: the default generator is (x+α)(x+α²)(x+α³), expanded. -/
theorem const_rsGen_eq_expansion :
    const.rsGen =
      let a := gfExp 0x11D 0x02 1; let b := gfExp 0x11D 0x02 2; let c := gfExp 0x11D 0x02 3
      (a ^^^ b ^^^ c, gfMul 0x11D a b ^^^ gfMul 0x11D a c ^^^ gfMul 0x11D b c, gfMul 0x11D (gfMul 0x11D a b) c) := by
  decide +kernel

/-- Settles O33: every non-zero byte is a power of α, and products and quotients of powers add and subtract exponents mod 255. -/
theorem gfArithmeticByLogarithms : Obligations.GfArithmeticByLogarithms := by
  refine ⟨⟨rfl, rfl, ?_⟩, rfl, gfExp_succ 0x11D, fun _ => gfLog_spec, fun _ _ => gfMul_eq_gfExp_gfLog,
    fun a => ⟨gfMul_zero _ a, zero_gfMul _ a⟩, fun a _ => gfMul_gfDiv a⟩
  rintro _ _ _ rfl rfl rfl
  exact const_rsGen_eq_expansion

end Sys2Proof.Machine
end

section
/-! SUPPORT. The legal register values (10_state R33 to R38, R45; 93_implementation_defined U6): the range of each decoder's
result, and the legality of the state after each operation and each command. -/

namespace Sys2Proof.Machine

/-! ### STATUS (R33, R45) -/

theorem Status.legal_issued (f : Status) : f.issued.Legal := by simp [Status.Legal]

theorem Status.legal_completed (f : Status) (cmd : Word) (err : ErrorCode) : (f.completed cmd err).Legal := by
  simp [Status.Legal]

/-! ### The reset values (R48) -/

theorem Clsr.legal_reset : Clsr.reset.Legal := by decide
theorem Str.legal_reset : Str.reset.Legal := by decide
theorem Bptcr.legal_reset : Bptcr.reset.Legal := by decide
theorem Rsr.legal_reset : Rsr.reset.Legal := by decide

theorem State.legal_reset : State.reset.Legal :=
  ⟨by decide, Clsr.legal_reset, Str.legal_reset, Bptcr.legal_reset, Rsr.legal_reset⟩

/-! ### CLASSIFY: the best match over the patterns (R150) -/

theorem nearestFrom_dist_le (field : BitVec 48) (ps : List (BitVec 48)) (i : Nat) (best : BestMatch) :
    (nearestFrom field ps i best).dist ≤ best.dist := by
  induction ps generalizing i best with
  | nil => exact le_rfl
  | cons p ps ih =>
    refine (ih _ _).trans ?_
    split
    case isTrue hnear => exact hnear.le
    case isFalse => exact le_rfl

/-- The match found is no farther than any pattern looked at. -/
theorem nearestFrom_dist_le_of_mem {field p : BitVec 48} {ps : List (BitVec 48)} (hp : p ∈ ps) (i : Nat)
    (best : BestMatch) : (nearestFrom field ps i best).dist ≤ popcount (field ^^^ p) := by
  induction ps generalizing i best with
  | nil => cases hp
  | cons q ps ih =>
    rcases List.mem_cons.mp hp with rfl | hp
    · refine (nearestFrom_dist_le field ps _ _).trans ?_
      split
      case isTrue => exact le_rfl
      case isFalse hfar => exact not_lt.mp hfar
    · exact ih hp _ _

theorem nearestFrom_idx_lt {field : BitVec 48} {ps : List (BitVec 48)} {i : Nat} {best : BestMatch}
    (h : best.idx < i + ps.length) : (nearestFrom field ps i best).idx < i + ps.length := by
  induction ps generalizing i best with
  | nil => exact h
  | cons p ps ih =>
    rw [List.length_cons, Nat.add_comm ps.length, ← Nat.add_assoc] at h ⊢
    refine ih ?_
    split
    case isTrue => simp only []; omega
    case isFalse => exact h

theorem nearestSync_dist_le (k : Const) (field : BitVec 48) : (nearestSync k field).dist ≤ 48 :=
  (nearestFrom_dist_le_of_mem (Vector.mem_toList_iff.mpr (Vector.getElem_mem (Nat.zero_lt_succ 8))) _ _).trans
    (popcount_le _)

theorem nearestSync_idx_lt (k : Const) (field : BitVec 48) : (nearestSync k field).idx < 9 := by
  simpa [nearestSync] using nearestFrom_idx_lt (field := field) (ps := k.sync.toList) (i := 0) (best := ⟨49, 0⟩) (by simp)

theorem clsrOf_legal {b : BestMatch} (hdist : b.dist ≤ 48) (hidx : b.idx < 9) : (clsrOf const b).Legal := by
  have hne : BitVec.ofNat 4 b.idx ≠ 9#4 := by bv_omega
  by_cases hnear : b.dist ≤ 6
  · simp [Clsr.Legal, clsrOf, const, hnear, hne]; omega
  · simp [Clsr.Legal, clsrOf, const, hnear]; omega

/-! ### SLOTTYPE: the corrected bits of an accepted word (R172) -/

theorem stDecode_ok_errors_le {k : Const} {w : BitVec 20} {d : BitVec 8} {e : Nat} (h : stDecode k w = .ok d e) :
    e ≤ k.stMaxErr := by
  unfold stDecode at h
  split at h
  · split at h
    case isTrue hle => cases h; exact hle
    case isFalse => cases h
  · cases h

/-! ### BPTC: the passes and the inversions (R194) -/

theorem correctLine_flips_le (h : HammingCode) (idx : Nat → Nat) (x : Correction) :
    (correctLine h idx x).flips ≤ x.flips + 1 := by
  unfold correctLine
  split
  · exact le_rfl
  · exact Nat.le_succ _

/-- Each line corrected makes at most one inversion. -/
theorem foldl_correctLine_flips_le (h : HammingCode) (idx : Nat → Nat → Nat) (lines : List Nat) (x : Correction) :
    (lines.foldl (fun x c => correctLine h (idx c) x) x).flips ≤ x.flips + lines.length := by
  induction lines generalizing x with
  | nil => exact le_rfl
  | cons c lines ih =>
    have hline := correctLine_flips_le h (idx c) x
    have hrest := ih (correctLine h (idx c) x)
    rw [List.foldl_cons, List.length_cons]
    omega

/-- A pass goes over 15 columns and 9 data rows. -/
theorem correctionPass_flips_le (k : Const) (x : Correction) : (correctionPass k x).flips ≤ x.flips + 24 := by
  have hcolumns := foldl_correctLine_flips_le k.h13 colIdx (List.range 15) { x with fixed := false }
  have hrows := foldl_correctLine_flips_le k.h15 rowIdx (List.range 9) (correctColumns k { x with fixed := false })
  rw [List.length_range] at hcolumns hrows
  exact hrows.trans (Nat.add_le_add_right hcolumns 9)

/-- The repeat loop of R194: a pass, and the rest where it fixed something. -/
theorem correctionLoop_succ (k : Const) (fuel passes : Nat) (x : Correction) :
    correctionLoop k (fuel + 1) passes x =
      if (correctionPass k x).fixed then correctionLoop k fuel (passes + 1) (correctionPass k x)
      else (correctionPass k x, passes + 1) := by
  rw [correctionLoop]
  rcases correctionPass k x with ⟨m, flips, _ | _⟩ <;> rfl

/-- The loop runs at most `fuel` more passes, and one where it may run any; each pass makes at most 24 inversions. -/
theorem correctionLoop_bounds {k : Const} {fuel passes : Nat} {x : Correction} (h : x.flips ≤ 24 * passes) :
    (correctionLoop k fuel passes x).1.flips ≤ 24 * (correctionLoop k fuel passes x).2 ∧
      passes + min fuel 1 ≤ (correctionLoop k fuel passes x).2 ∧
      (correctionLoop k fuel passes x).2 ≤ passes + fuel := by
  induction fuel generalizing passes x with
  | zero => exact ⟨h, le_rfl, le_rfl⟩
  | succ fuel ih =>
    have hpass : (correctionPass k x).flips ≤ 24 * (passes + 1) := by
      have := correctionPass_flips_le k x
      omega
    rw [correctionLoop_succ]
    split
    case isTrue =>
      obtain ⟨hflips, hmin, hmax⟩ := ih hpass
      exact ⟨hflips, by omega, by omega⟩
    case isFalse => exact ⟨hpass, by simp, by simp⟩

theorem bptcDecode_bounds (m : Matrix) :
    (bptcDecode const m).1.flips ≤ 24 * (bptcDecode const m).2 ∧ 1 ≤ (bptcDecode const m).2 ∧
      (bptcDecode const m).2 ≤ 5 :=
  correctionLoop_bounds (k := const) (fuel := 5) (passes := 0) (x := ⟨m, 0, false⟩) le_rfl

theorem Bptcr.legal_of_bounds {flips passes : Nat} (hflips : flips ≤ 24 * passes) (hmin : 1 ≤ passes) (hmax : passes ≤ 5)
    (ok : Bool) : Bptcr.Legal ⟨BitVec.ofNat 8 flips, BitVec.ofNat 3 passes, ok⟩ := by
  simp only [Bptcr.Legal, BitVec.toNat_ofNat]
  omega

/-! ### RSDEC: the count and the place of the corrected symbols (R223) -/

theorem rsCorrect_ok {k : Const} {b c : List Byte} {s1 s2 : Byte} {n : Nat} {pos : Option Nat}
    (h : rsCorrect k b s1 s2 = .ok c n pos) : n = 1 ∧ ∃ p ≤ 11, pos = some p := by
  simp only [rsCorrect] at h
  split at h
  · cases h
  · cases h; exact ⟨rfl, _, Nat.sub_le _ _, rfl⟩

/-- A decoded word had no wrong symbol, or one at an index from 0 to 11. -/
theorem rsDecode_ok {k : Const} {b c : List Byte} {n : Nat} {pos : Option Nat} (h : rsDecode k b = .ok c n pos) :
    (n = 0 ∧ pos = none) ∨ (n = 1 ∧ ∃ p ≤ 11, pos = some p) := by
  simp only [rsDecode] at h
  split at h
  · cases h; exact .inl ⟨rfl, rfl⟩
  split at h
  · cases h
  split at h
  · cases h
  · exact .inr (rsCorrect_ok h)

theorem Rsr.legal_of_rsDecode {k : Const} {b c : List Byte} {n : Nat} {pos : Option Nat}
    (h : rsDecode k b = .ok c n pos) : Rsr.Legal ⟨BitVec.ofNat 2 n, BitVec.ofNat 4 (pos.getD 0xF), true⟩ := by
  rcases rsDecode_ok h with ⟨rfl, rfl⟩ | ⟨rfl, p, hp, rfl⟩
  · decide
  · simp [Rsr.Legal]; omega

/-! ### The operations on the state -/

theorem State.Legal.complete {s : State} (h : s.Legal) (err : ErrorCode) : (s.complete err).Legal :=
  ⟨Status.legal_completed _ _ _, h.2⟩

theorem State.Legal.setClsr {s : State} {v : Clsr} (h : s.Legal) (hv : v.Legal) : (s.setClsr v).Legal :=
  have ⟨hstatus, _, hrest⟩ := h
  ⟨hstatus, hv, hrest⟩

theorem State.Legal.setStr {s : State} {v : Str} (h : s.Legal) (hv : v.Legal) : (s.setStr v).Legal :=
  have ⟨hstatus, hclsr, _, hrest⟩ := h
  ⟨hstatus, hclsr, hv, hrest⟩

theorem State.Legal.setBptcr {s : State} {v : Bptcr} (h : s.Legal) (hv : v.Legal) : (s.setBptcr v).Legal :=
  have ⟨hstatus, hclsr, hstr, _, hrsr⟩ := h
  ⟨hstatus, hclsr, hstr, hv, hrsr⟩

theorem State.Legal.setRsr {s : State} {v : Rsr} (h : s.Legal) (hv : v.Legal) : (s.setRsr v).Legal :=
  have ⟨hstatus, hclsr, hstr, hbptcr, _⟩ := h
  ⟨hstatus, hclsr, hstr, hbptcr, hv⟩

theorem State.Legal.setInfo {s : State} (h : s.Legal) (v : Vector Word 3) : (s.setInfo v).Legal := h

theorem State.Legal.setCrcr {s : State} (h : s.Legal) (v : Crcr) : (s.setCrcr v).Legal := h

theorem State.Legal.setWdrop {s : State} (h : s.Legal) (b : Bool) : (s.setWdrop b).Legal := h

theorem State.Legal.popInput {s : State} (h : s.Legal) (rest : List HostOp) : (s.popInput rest).Legal := h

theorem State.Legal.clearResults {s : State} (h : s.Legal) : s.clearResults.Legal :=
  ⟨h.1, Clsr.legal_reset, Str.legal_reset, Bptcr.legal_reset, Rsr.legal_reset⟩

/-! ### The commands -/

theorem State.Legal.classify {s : State} (h : s.Legal) : (classify const s).Legal := by
  rw [classify_eq]
  exact (h.setClsr (clsrOf_legal (nearestSync_dist_le _ _) (nearestSync_idx_lt _ _))).complete _

theorem State.Legal.slottype {s : State} (h : s.Legal) : (slottype const s).Legal := by
  have hnerr : ∀ e ≤ 3, (BitVec.ofNat 3 e).toNat ≤ 3 := by decide
  rcases slottypeResult_cases s (stDecode const s.slotTypeWord) with
    ⟨dist, -, heq⟩ | ⟨d, e, hd, -, -, heq⟩ | ⟨d, e, hd, -, heq⟩ <;> rw [Machine.slottype, heq]
  · exact (h.setStr (by simp [Str.Legal, Str.reset])).complete _
  · exact (h.setStr (by simpa [Str.Legal] using hnerr e (stDecode_ok_errors_le hd))).complete _
  · exact (h.setStr (by simpa [Str.Legal] using hnerr e (stDecode_ok_errors_le hd))).complete _

theorem State.Legal.bptc {s : State} (h : s.Legal) : (bptc const s).Legal := by
  obtain ⟨hflips, hmin, hmax⟩ := bptcDecode_bounds (s.matrix const)
  rcases bptc_cases const s with ⟨-, heq⟩ | ⟨-, heq⟩ <;> rw [heq]
  · exact ((h.setBptcr (Bptcr.legal_of_bounds hflips hmin hmax _)).setInfo _).complete _
  · exact (h.setBptcr (Bptcr.legal_of_bounds hflips hmin hmax _)).complete _

theorem State.Legal.rsdec {s : State} (h : s.Legal) (m : BitVec 24) : (rsdec const m s).Legal := by
  rcases rsdec_cases const m s with ⟨c, n, pos, hok, heq⟩ | ⟨-, heq⟩ <;> rw [heq]
  · exact ((h.setInfo _).setRsr (Rsr.legal_of_rsDecode hok)).complete _
  · exact (h.setRsr (by decide)).complete _

theorem State.Legal.crcchkResult {s : State} (h : s.Legal) (computed recv : BitVec 24) :
    (crcchkResult s computed recv).Legal := by
  rw [crcchkResult_eq]
  exact (h.setCrcr _).complete _

theorem State.Legal.exec {s t : State} {i : Instr} (h : s.Legal) (hexec : exec i s = .next t) : t.Legal := by
  cases i <;> injection hexec with heq <;> subst heq
  case nop => exact h.complete _
  case classify => exact h.classify
  case slottype => exact h.slottype
  case bptc => exact h.bptc
  case clear => exact h.clearResults.complete _
  case rsdecNone | rsdecVlc | rsdecTlc => exact h.rsdec _
  case crcchkVlc | crcchkTlc | crcchkPi | crcchkDh | crcchkCsbk => exact h.crcchkResult _ _

/-! ### The agents outside -/

theorem State.Legal.hostRead {s : State} (h : s.Legal) (off : Nat) : (s.hostRead off).Legal := by
  rcases s.hostRead_cases off with ⟨-, -, heq⟩ | ⟨-, heq⟩ <;> rw [heq] <;> exact h

theorem State.Legal.writeReg {s : State} (h : s.Legal) (v : Word) (r : Reg) : (s.writeReg v r).Legal := by
  cases r with
  | cmd => exact ⟨Status.legal_issued _, h.2⟩
  | status =>
    rw [State.writeReg]
    split
    · exact h.setWdrop false
    · exact h
  | burst k =>
    rw [State.writeReg, State.writeBurst]
    split <;> exact h
  | id | ccfilt | clsr | str | bptcr | rsr | crcr | info _ => exact h

theorem State.Legal.hostWrite {s : State} (h : s.Legal) (off : Nat) (v : Word) : (s.hostWrite off v).Legal := by
  rcases s.hostWrite_cases off v with ⟨-, heq⟩ | ⟨r, -, -, heq⟩ | ⟨r, -, -, heq⟩ <;> rw [heq]
  · exact h
  · exact h.setWdrop true
  · exact h.writeReg v r

theorem State.Legal.hostPoll {s : State} (h : s.Legal) : s.hostPoll.Legal := by
  rw [State.hostPoll]
  split <;> exact h.hostRead _

theorem State.Legal.hostStep {s t : State} {op : HostOp} (h : s.Legal) (hstep : hostStep op s = .next t) : t.Legal := by
  rcases hostStep_cases hstep with ⟨_, off, -, -, rfl⟩ | ⟨_, off, v, -, -, rfl⟩ | ⟨-, rfl⟩ | ⟨-, rfl⟩
  · exact h.hostRead off
  · exact h.hostWrite off v
  · exact h.hostPoll
  · exact State.legal_reset

/-- An input at its turn is the oldest one, taken from the queue (R78). -/
theorem State.eq_popInput_of_turn {s s' : State} {op : HostOp} (h : s.turn = .input op s') :
    ∃ rest, s.inputs = op :: rest ∧ s' = s.popInput rest := by
  rcases s.turn_cases with ⟨-, -, hturn⟩ | ⟨-, -, hturn⟩ | ⟨_, rest, hinputs, -, hturn⟩ <;>
    rw [hturn] at h <;> cases h
  exact ⟨rest, hinputs, rfl⟩

/-- Settles O59: each of the four things a step can do keeps the state legal. -/
theorem stepKeepsLegal : Obligations.StepKeepsLegal := by
  intro s t h hstep
  rcases step_cases hstep with ⟨-, rfl⟩ | ⟨-, i, -, hexec⟩ | ⟨-, code, -, rfl⟩ | ⟨op, s', hturn, hhost⟩
  · exact h
  · exact h.exec hexec
  · exact h.complete code
  · obtain ⟨rest, -, rfl⟩ := State.eq_popInput_of_turn hturn
    exact (h.popInput rest).hostStep hhost

/-- Settles O58: every register's reset value is legal. -/
theorem resetIsLegal : Obligations.ResetIsLegal := State.legal_reset

end Sys2Proof.Machine
end

section
/-! SUPPORT. The registers that each command leaves unchanged (10_state R46), as whole-state equalities and through the register
window, and the core step's frame. -/

namespace Sys2Proof.Machine

/-! ### The commands with a mask, by their lists (R103) -/

theorem exec_of_mem_rsdecMasks {p : Instr × BitVec 24} (hp : p ∈ rsdecMasks) (s : State) :
    exec p.1 s = .next (rsdec const p.2 s) := by
  fin_cases hp <;> rfl

theorem exec_of_mem_crcchk24Masks {p : Instr × BitVec 24} (hp : p ∈ crcchk24Masks) (s : State) :
    exec p.1 s = .next (crcchk24 const p.2 s) := by
  fin_cases hp <;> rfl

theorem exec_of_mem_crcchk16Masks {p : Instr × BitVec 16} (hp : p ∈ crcchk16Masks) (s : State) :
    exec p.1 s = .next (crcchk16 const p.2 s) := by
  fin_cases hp <;> rfl

/-! ### One frame for each result operation -/

theorem classify_frame (k : Const) (s : State) :
    classify k s = { s with status := (classify k s).status, clsr := (classify k s).clsr } := by
  rw [classify_eq]; rfl

theorem slottype_frame (k : Const) (s : State) :
    slottype k s = { s with status := (slottype k s).status, str := (slottype k s).str } := by
  rcases slottypeResult_cases s (stDecode k s.slotTypeWord) with
    ⟨_, -, heq⟩ | ⟨_, _, -, -, -, heq⟩ | ⟨_, _, -, -, heq⟩ <;> rw [slottype, heq] <;> rfl

theorem bptc_frame (k : Const) (s : State) :
    bptc k s = { s with status := (bptc k s).status, bptcr := (bptc k s).bptcr, info := (bptc k s).info } := by
  rcases bptc_cases k s with ⟨-, heq⟩ | ⟨-, heq⟩ <;> rw [heq] <;> rfl

theorem bptc_info_of_not_ok {k : Const} {s : State} (h : (bptc k s).status.ok = false) : (bptc k s).info = s.info := by
  rcases bptc_cases k s with ⟨-, heq⟩ | ⟨-, heq⟩ <;> rw [heq] at h ⊢
  · cases h
  · rfl

theorem rsdec_frame (k : Const) (m : BitVec 24) (s : State) :
    rsdec k m s = { s with status := (rsdec k m s).status, rsr := (rsdec k m s).rsr, info := (rsdec k m s).info } := by
  rcases rsdec_cases k m s with ⟨_, _, _, -, heq⟩ | ⟨-, heq⟩ <;> rw [heq] <;> rfl

theorem rsdec_info_of_not_ok {k : Const} {m : BitVec 24} {s : State} (h : (rsdec k m s).status.ok = false) :
    (rsdec k m s).info = s.info := by
  rcases rsdec_cases k m s with ⟨_, _, _, -, heq⟩ | ⟨-, heq⟩ <;> rw [heq] at h ⊢
  · cases h
  · rfl

theorem crcchkResult_frame (s : State) (computed recv : BitVec 24) :
    crcchkResult s computed recv = { s with
      status := (crcchkResult s computed recv).status, crcr := (crcchkResult s computed recv).crcr } := by
  rw [crcchkResult_eq]; rfl

theorem State.clearResults_eq (s : State) : s.clearResults = { s with
    status := { s.status with wdrop := false }
    clsr := .reset, str := .reset, bptcr := .reset, rsr := .reset, crcr := .reset } := rfl

theorem clear_frame (s : State) : s.clearResults.complete .none = { s with
    status := (s.clearResults.complete .none).status
    clsr := (s.clearResults.complete .none).clsr
    str := (s.clearResults.complete .none).str
    bptcr := (s.clearResults.complete .none).bptcr
    rsr := (s.clearResults.complete .none).rsr
    crcr := (s.clearResults.complete .none).crcr } := by
  rw [State.clearResults_eq]; rfl

/-- What exec answers is determined: `t` is the state its command's equation gives. -/
theorem eq_of_exec_eq_next {i : Instr} {s t u : State} (ht : exec i s = .next t) (hu : exec i s = .next u) : t = u :=
  Host.Outcome.next.inj (ht.symm.trans hu)

/-- Settles O16: each command's result operation writes only its own registers, and a failure keeps INFO. -/
theorem commandRegisterFrames : Obligations.CommandRegisterFrames := by
  refine ⟨fun s t h => ?nop, fun s t h => ?classify, fun s t h => ?slottype, fun s t h => ?bptc,
    fun p hp s t h => ?rsdec, fun p hp s t h => ?crcchk24, fun p hp s t h => ?crcchk16, fun s t h => ?clear⟩
  case nop => rw [eq_of_exec_eq_next h (exec_nop s)]; rfl
  case classify => rw [eq_of_exec_eq_next h (exec_classify s)]; exact classify_frame const s
  case slottype => rw [eq_of_exec_eq_next h (exec_slottype s)]; exact slottype_frame const s
  case bptc =>
    rw [eq_of_exec_eq_next h (exec_bptc s)]
    exact ⟨bptc_frame const s, bptc_info_of_not_ok⟩
  case rsdec =>
    rw [eq_of_exec_eq_next h (exec_of_mem_rsdecMasks hp s)]
    exact ⟨rsdec_frame const p.2 s, rsdec_info_of_not_ok⟩
  case crcchk24 =>
    rw [eq_of_exec_eq_next h (exec_of_mem_crcchk24Masks hp s)]
    exact crcchkResult_frame s _ _
  case crcchk16 =>
    rw [eq_of_exec_eq_next h (exec_of_mem_crcchk16Masks hp s)]
    exact crcchkResult_frame s _ _
  case clear => rw [eq_of_exec_eq_next h (exec_clear s)]; exact clear_frame s

/-! ### One frame for all the commands -/

/-- R46: a result register changes only under a command that may write its offset; CMD, CCFILT, BURST and the model's own
fields never do. -/
theorem exec_frame {i : Instr} {s t : State} (h : exec i s = .next t) :
    t = { s with
      status := t.status
      clsr := if 0x010 ∈ writtenOffsets i then t.clsr else s.clsr
      str := if 0x014 ∈ writtenOffsets i then t.str else s.str
      bptcr := if 0x018 ∈ writtenOffsets i then t.bptcr else s.bptcr
      rsr := if 0x01C ∈ writtenOffsets i then t.rsr else s.rsr
      crcr := if 0x020 ∈ writtenOffsets i then t.crcr else s.crcr
      info := if 0x080 ∈ writtenOffsets i then t.info else s.info } := by
  cases i <;> rw [← Host.Outcome.next.inj h]
  case nop => rfl
  case classify => exact classify_frame const s
  case slottype => exact slottype_frame const s
  case bptc => exact bptc_frame const s
  case clear => exact clear_frame s
  case rsdecNone | rsdecVlc | rsdecTlc => exact rsdec_frame const _ s
  case crcchkVlc | crcchkTlc | crcchkPi | crcchkDh | crcchkCsbk => exact crcchkResult_frame s _ _

theorem State.turn_of_coreTurn {s : State} (h : s.CoreTurn) : s.turn = .core := by
  obtain ⟨hbusy, hnext⟩ := h
  rcases s.turn_cases with ⟨hidle, -, -⟩ | ⟨-, -, hturn⟩ | ⟨op, rest, hinputs, hwait, -⟩
  · simp [hbusy] at hidle
  · exact hturn
  · simp [hbusy, hinputs] at hnext hwait
    exact absurd hnext hwait

/-- At the core's turn a step runs the command in CMD, or completes an illegal word. -/
theorem step_of_coreTurn {s t : State} (hturn : s.CoreTurn) (h : step s = .next t) :
    (∃ i, decode s.cmd = .ok i ∧ exec i s = .next t) ∨ (∃ code, decode s.cmd = .error code ∧ t = s.complete code) := by
  have hcore := State.turn_of_coreTurn hturn
  rcases step_cases h with ⟨hidle, -⟩ | ⟨-, hexec⟩ | ⟨-, hillegal⟩ | ⟨op, s', hinput, -⟩
  · simp [hcore] at hidle
  · exact .inl hexec
  · exact .inr hillegal
  · simp [hcore] at hinput

/-- Settles O15: the frame of the executed command, or the completion of the illegal word. -/
theorem coreStepKeepsOperandsAndInputs : Obligations.CoreStepKeepsOperandsAndInputs := by
  intro s t hturn h
  rcases step_of_coreTurn hturn h with ⟨i, -, hexec⟩ | ⟨code, -, rfl⟩
  · rw [exec_frame hexec]
    exact ⟨rfl, rfl, rfl, rfl, rfl, rfl, rfl, rfl, rfl, rfl⟩
  · exact ⟨rfl, rfl, rfl, rfl, rfl, rfl, rfl, rfl, rfl, rfl⟩

/-! ### The registers by their offsets (R71) -/

/-- The offset of a register in the window (R71). -/
def Reg.offset : Reg → Nat
  | .id => 0x000
  | .cmd => 0x004
  | .status => 0x008
  | .ccfilt => 0x00C
  | .clsr => 0x010
  | .str => 0x014
  | .bptcr => 0x018
  | .rsr => 0x01C
  | .crcr => 0x020
  | .burst k => 0x040 + 4 * k
  | .info k => 0x080 + 4 * k

/-- The address map holds each register at its own offset and nothing else. -/
theorem regAt_eq_some_iff {off : Nat} {r : Reg} : regAt off = some r ↔ off = r.offset := by
  constructor
  · intro h
    obtain ⟨before, behind, hmap, -⟩ := List.lookup_eq_some_iff.mp h
    have hall : ∀ p ∈ windowMap, p.1 = p.2.offset := by decide
    exact hall (off, r) (by simp [hmap])
  · rintro rfl
    cases r with
    | burst k => exact regAt_burst k
    | info k => exact regAt_info k
    | _ => rfl

theorem regAt_eq_none_of_unmapped {off : Nat} (h : Unmapped off) : regAt off = none := by
  refine Option.eq_none_iff_forall_ne_some.mpr fun r hr => ?_
  rw [regAt_eq_some_iff] at hr
  cases r <;> simp only [Reg.offset] at hr <;> omega

/-- Two states that agree on every register but those at `offs` agree on every window offset not in `offs`. -/
theorem State.windowRead_eq_of_not_mem {s t : State} {offs : List Nat} {off : Nat}
    (h : ∀ r : Reg, r.offset ∉ offs → t.readReg r = s.readReg r) (hoff : off ∉ offs) :
    t.windowRead off = s.windowRead off := by
  unfold State.windowRead
  cases hr : regAt off with
  | none => rfl
  | some r => exact h r (regAt_eq_some_iff.mp hr ▸ hoff)

/-- The commands that may write INFO0 may write INFO1 and INFO2. -/
theorem infoOffset_mem_writtenOffsets {i : Instr} (h : 0x080 ∈ writtenOffsets i) (k : Fin 3) :
    (Reg.info k).offset ∈ writtenOffsets i := by
  revert h k
  cases i <;> decide

theorem status_mem_writtenOffsets (i : Instr) : 0x008 ∈ writtenOffsets i := by
  cases i <;> decide

/-- Settles O17: through the window, the frame of each command. -/
theorem commandWindowFrames : Obligations.CommandWindowFrames := by
  intro i s t hexec off hoff
  refine State.windowRead_eq_of_not_mem (fun r hr => ?_) hoff
  rw [exec_frame hexec]
  cases r with
  | id | cmd | ccfilt | burst k => rfl
  | status => exact absurd (status_mem_writtenOffsets i) hr
  | info k =>
    have hinfo : 0x080 ∉ writtenOffsets i := fun h => hr (infoOffset_mem_writtenOffsets h k)
    simp only [State.readReg, State.infoWord, if_neg hinfo]
  | clsr | str | bptcr | rsr | crcr =>
    rw [Reg.offset] at hr
    simp only [State.readReg, if_neg hr]

end Sys2Proof.Machine
end

section
/-! SUPPORT. The 32-bit views of the registers (10_state R31 to R40): the reserved bits and the place of each field; ID, the
unmapped offsets and the reset values, through the window. -/

namespace Sys2Proof.Machine

/-! ### The reserved bits: each mask, cut along the fields of its register, meets only zeros there and is 0 elsewhere -/

theorem Status.word_and_reserved (f : Status) : f.word &&& 0xFFFEF008 = 0 := by
  rw [show (0xFFFEF008 : Word) = 0x7FFF#15 ++ 0#1 ++ 0xF#4 ++ 0#4 ++ 0#4 ++ 1#1 ++ 0#1 ++ 0#1 ++ 0#1 by decide,
    Status.word, BitVec.and_append]
  simp only [BitVec.and_append, BitVec.and_zero, BitVec.zero_and]
  rfl

theorem Ccfilt.word_and_reserved (c : Ccfilt) : c.word &&& 0xFFFFFEF0 = 0 := by
  rw [show (0xFFFFFEF0 : Word) = 0x7FFFFF#23 ++ 0#1 ++ 0xF#4 ++ 0#4 by decide, Ccfilt.word, BitVec.and_append]
  simp only [BitVec.and_append, BitVec.and_zero, BitVec.zero_and]
  rfl

theorem Clsr.word_and_reserved (c : Clsr) : c.word &&& 0xFEF0C0F0 = 0 := by
  rw [show (0xFEF0C0F0 : Word) = 0x7F#7 ++ 0#1 ++ 0xF#4 ++ 0#4 ++ 3#2 ++ 0#6 ++ 0xF#4 ++ 0#4 by decide, Clsr.word,
    BitVec.and_append]
  simp only [BitVec.and_append, BitVec.and_zero, BitVec.zero_and]
  rfl

theorem Str.word_and_reserved (r : Str) : r.word &&& 0xFFFFC800 = 0 := by
  rw [show (0xFFFFC800 : Word) = 0x3FFFF#18 ++ 0#1 ++ 0#1 ++ 1#1 ++ 0#3 ++ 0#4 ++ 0#4 by decide, Str.word,
    BitVec.and_append]
  simp only [BitVec.and_append, BitVec.and_zero, BitVec.zero_and]
  rfl

theorem Bptcr.word_and_reserved (r : Bptcr) : r.word &&& 0xFFFEF800 = 0 := by
  rw [show (0xFFFEF800 : Word) = 0x7FFF#15 ++ 0#1 ++ 0x1F#5 ++ 0#3 ++ 0#8 by decide, Bptcr.word, BitVec.and_append]
  simp only [BitVec.and_append, BitVec.and_zero, BitVec.zero_and]
  rfl

theorem Rsr.word_and_reserved (r : Rsr) : r.word &&& 0xFFFEF0FC = 0 := by
  rw [show (0xFFFEF0FC : Word) = 0x7FFF#15 ++ 0#1 ++ 0xF#4 ++ 0#4 ++ 0x3F#6 ++ 0#2 by decide, Rsr.word,
    BitVec.and_append]
  simp only [BitVec.and_append, BitVec.and_zero, BitVec.zero_and]
  rfl

theorem Crcr.word_and_reserved (r : Crcr) : r.word &&& 0xFE000000 = 0 := by
  rw [show (0xFE000000 : Word) = 0x7F#7 ++ 0#1 ++ 0#24 by decide, Crcr.word, BitVec.and_append]
  simp only [BitVec.and_append, BitVec.and_zero, BitVec.zero_and]
  rfl

theorem State.burstWord_eight (s : State) : s.burstWord 8 = s.burst8 ++ 0#24 := rfl

theorem State.burstWord_eight_and_reserved (s : State) : s.burstWord 8 &&& 0x00FFFFFF = 0 := by
  rw [show (0x00FFFFFF : Word) = 0#8 ++ 0xFFFFFF#24 by decide, State.burstWord_eight, BitVec.and_append]
  simp

/-- Settles O48, register by register. -/
theorem reservedBitsReadZero : Obligations.ReservedBitsReadZero := fun s =>
  ⟨s.status.word_and_reserved, s.ccfilt.word_and_reserved, s.clsr.word_and_reserved, s.str.word_and_reserved,
    s.bptcr.word_and_reserved, s.rsr.word_and_reserved, s.crcr.word_and_reserved, s.burstWord_eight_and_reserved⟩

/-! ### The fields: each register's word, with the sum of its fields' widths as its width -/

theorem Status.word_eq_cast (f : Status) : f.word =
    (0#15 ++ BitVec.ofBool f.wdrop ++ 0#4 ++ f.lastop ++ f.err.code ++ 0#1 ++ BitVec.ofBool f.ok ++
      BitVec.ofBool f.done ++ BitVec.ofBool f.busy).cast rfl := rfl

theorem Ccfilt.word_eq_cast (c : Ccfilt) : c.word = (0#23 ++ BitVec.ofBool c.en ++ 0#4 ++ c.ecc).cast rfl := rfl

theorem Clsr.word_eq_cast (c : Clsr) : c.word =
    (0#7 ++ BitVec.ofBool c.ok ++ 0#4 ++ c.idx ++ 0#2 ++ c.dist ++ 0#4 ++ c.type).cast rfl := rfl

theorem Str.word_eq_cast (r : Str) : r.word =
    (0#18 ++ BitVec.ofBool r.ccm ++ BitVec.ofBool r.ok ++ 0#1 ++ r.nerr ++ r.cc ++ r.dt).cast rfl := rfl

theorem Bptcr.word_eq_cast (r : Bptcr) : r.word =
    (0#15 ++ BitVec.ofBool r.ok ++ 0#5 ++ r.passes ++ r.flips).cast rfl := rfl

theorem Rsr.word_eq_cast (r : Rsr) : r.word =
    (0#15 ++ BitVec.ofBool r.ok ++ 0#4 ++ r.pos ++ 0#6 ++ r.ncorr).cast rfl := rfl

theorem Crcr.word_eq_cast (r : Crcr) : r.word = (0#7 ++ BitVec.ofBool r.ok ++ r.computed).cast rfl := rfl

/-- Settles O49: a field is read off the fields below it, whose widths add up to its position. -/
theorem fieldsStandAtTheirBits : Obligations.FieldsStandAtTheirBits := by
  intro s
  simp only [State.windowRead_cmd, State.windowRead_status, State.windowRead_ccfilt, State.windowRead_clsr,
    State.windowRead_str, State.windowRead_bptcr, State.windowRead_rsr, State.windowRead_crcr, Status.word_eq_cast,
    Ccfilt.word_eq_cast, Clsr.word_eq_cast, Str.word_eq_cast, Bptcr.word_eq_cast, Rsr.word_eq_cast, Crcr.word_eq_cast,
    BitVec.getLsbD_cast, BitVec.getLsbD_append, BitVec.extractLsb'_cast, BitVec.extractLsb'_append_eq_ite]
  simp

/-! ### ID (R31) -/

theorem State.hostRead_id (s : State) : s.hostRead 0x000 = { s with reads := idValue :: s.reads } := by
  rcases s.hostRead_cases 0x000 with ⟨-, hreadable, -⟩ | ⟨-, heq⟩
  · cases hreadable
  · exact heq

theorem State.hostWrite_id (s : State) (v : Word) :
    s.hostWrite 0x000 v = if s.status.busy then s.setWdrop true else s := rfl

/-- Settles O47: both host accesses of offset 0 are defined, and are these two equations. -/
theorem idIsConstant : Obligations.IdIsConstant := by
  intro s v
  refine ⟨guardAccess_eq_next.mpr ⟨rfl, s.hostRead_id.symm⟩, fun hidle => guardAccess_eq_next.mpr ⟨rfl, ?idle⟩,
    fun hbusy => guardAccess_eq_next.mpr ⟨rfl, ?busy⟩⟩
  case idle => rw [State.hostWrite_id, hidle]; rfl
  case busy => rw [State.hostWrite_id, if_pos hbusy]; rfl

/-! ### The reset values (R48) -/

/-- Settles O56: the mapped offsets one by one, and an unmapped one holds no register. -/
theorem resetValues : Obligations.ResetValues := by
  refine ⟨rfl, rfl, rfl, rfl, rfl, rfl, rfl, rfl, rfl, ?burst, ?info, fun s off _ hoff => ?unmapped⟩
  case burst => decide
  case info => decide
  case unmapped => rw [State.windowRead, regAt_eq_none_of_unmapped hoff]

end Sys2Proof.Machine
end

section
/-! SUPPORT. The turn of the agent outside the core (20_memory R72 to R74, R78, R81): the accesses that stop by name, a host
read and a host write by the register at their offset, and what stays while a command is pending. -/

namespace Sys2Proof.Machine

/-! ### The guard of an access (R70, R72) -/

theorem guardAccess_of_width_ne {width : Nat} (h : width ≠ 4) (off : Nat) (s : State) :
    guardAccess width off s = .refused .undefinedWidth := if_pos h

theorem guardAccess_of_misaligned {off : Nat} (h : off % 4 ≠ 0) (s : State) :
    guardAccess 4 off s = .refused .misaligned := by
  rw [guardAccess, if_neg (by decide), if_pos h]

theorem guardAccess_of_outside {off : Nat} (halign : off % 4 = 0) (h : 0x100 ≤ off) (s : State) :
    guardAccess 4 off s = .fault .outsideWindow := by
  rw [guardAccess, if_neg (by decide), if_neg (not_not.mpr halign), if_pos h]

theorem guardAccess_of_inWindow {off : Nat} (halign : off % 4 = 0) (h : off < 0x100) (s : State) :
    guardAccess 4 off s = .next s :=
  guardAccess_eq_next.mpr ⟨by simp [accessWellFormed, halign, h], rfl⟩

/-- Settles O45: the three stops of the guard, which a read and a write share. -/
theorem undefinedAccessesStop : Obligations.UndefinedAccessesStop := fun _ _ off _ =>
  ⟨fun h => ⟨guardAccess_of_width_ne h off _, guardAccess_of_width_ne h off _⟩,
    fun h => ⟨guardAccess_of_misaligned h _, guardAccess_of_misaligned h _⟩,
    fun halign h => ⟨guardAccess_of_outside halign h _, guardAccess_of_outside halign h _⟩⟩

/-! ### The step at the host's turn (R78) -/

theorem State.turn_of_hostTurn {s : State} {op : HostOp} {rest : List HostOp} (h : s.HostTurn op rest) :
    s.turn = .input op (s.popInput rest) := by
  obtain ⟨hinputs, hwait⟩ := h
  rcases s.turn_cases with ⟨-, hnil, -⟩ | ⟨hbusy, hnil | hdelay, -⟩ | ⟨op', rest', hinputs', -, hturn⟩
  · simp [hinputs] at hnil
  · simp [hinputs] at hnil
  · exact absurd ⟨hbusy, hdelay⟩ hwait
  · obtain ⟨rfl, rfl⟩ := List.cons.inj (hinputs.symm.trans hinputs')
    exact hturn

theorem State.turn_of_idle {s : State} (hidle : s.status.busy = false) (hnil : s.inputs = []) : s.turn = .idle := by
  simp [State.turn, hidle, hnil]

theorem step_of_hostTurn {s : State} {op : HostOp} {rest : List HostOp} (h : s.HostTurn op rest) :
    step s = hostStep op (s.popInput rest) := by
  rw [step, stepOf, State.turn_of_hostTurn h]

/-- Settles O6: whose turn it is decides the step. -/
theorem stepRunsTheNextInput : Obligations.StepRunsTheNextInput := by
  refine ⟨fun s op rest h => step_of_hostTurn h, fun s hidle hnil => ?_⟩
  rw [step, stepOf, State.turn_of_idle hidle hnil]

/-! ### The value a host read returns (R73) -/

theorem readableWhileBusy_eq_true {off : Nat} : readableWhileBusy off = true ↔ off = 0x000 ∨ off = 0x008 := by
  simp [readableWhileBusy]

theorem State.hostRead_of_busy {s : State} {off : Nat} (hbusy : s.status.busy = true)
    (hoff : ¬(off = 0x000 ∨ off = 0x008)) :
    s.hostRead off = { s with reads := Config.anyRead s.stream s.draws :: s.reads, draws := s.draws + 1 } := by
  rcases s.hostRead_cases off with ⟨-, -, heq⟩ | ⟨hidle | hreadable, -⟩
  · exact heq
  · simp [hbusy] at hidle
  · exact absurd (readableWhileBusy_eq_true.mp hreadable) hoff

theorem State.hostRead_of_readable {s : State} {off : Nat}
    (h : s.status.busy = false ∨ off = 0x000 ∨ off = 0x008) :
    s.hostRead off = { s with reads := s.windowRead off :: s.reads } := by
  rcases s.hostRead_cases off with ⟨hbusy, hreadable, -⟩ | ⟨-, heq⟩
  · rw [← readableWhileBusy_eq_true] at h
    simp [hbusy, hreadable] at h
  · exact heq

/-! ### While a command is pending (R74, R81) -/

theorem State.hostPoll_eq (s : State) : s.hostPoll = { s with
    reads := s.status.word :: s.reads, inputs := if s.status.busy = true then .wait :: s.inputs else s.inputs } := by
  rw [State.hostPoll, State.hostRead_of_readable (.inr (.inr rfl)), State.windowRead_status]
  split <;> rfl

theorem State.hostWrite_of_busy {s : State} (hbusy : s.status.busy = true) (off : Nat) (v : Word) :
    s.hostWrite off v = s ∨ s.hostWrite off v = s.setWdrop true := by
  rcases s.hostWrite_cases off v with ⟨-, heq⟩ | ⟨_, -, -, heq⟩ | ⟨_, -, hidle, -⟩
  · exact .inl heq
  · exact .inr heq
  · simp [hbusy] at hidle

/-- While BUSY an input other than a reset changes no register but WDROP. -/
theorem hostStep_frame_of_busy {op : HostOp} {s t : State} (hbusy : s.status.busy = true) (hop : op ≠ .reset)
    (h : hostStep op s = .next t) :
    t = { s with status := { s.status with wdrop := t.status.wdrop }
                 inputs := t.inputs, reads := t.reads, draws := t.draws } := by
  rcases hostStep_cases h with ⟨_, off, -, -, rfl⟩ | ⟨_, off, v, -, -, rfl⟩ | ⟨-, rfl⟩ | ⟨hreset, -⟩
  · rcases s.hostRead_cases off with ⟨-, -, heq⟩ | ⟨-, heq⟩ <;> rw [heq]
  · rcases State.hostWrite_of_busy hbusy off v with heq | heq <;> rw [heq]
    rfl
  · rw [State.hostPoll_eq]
  · exact absurd hreset hop

/-- Settles O13: taking the input from the queue changes `inputs` and `delay` only, and the input keeps the registers. -/
theorem registersHeldWhileBusy : Obligations.RegistersHeldWhileBusy := by
  intro s t op rest hbusy hturn hop hstep
  rw [step_of_hostTurn hturn] at hstep
  rw [hostStep_frame_of_busy (s := s.popInput rest) hbusy hop hstep]
  rfl

/-! ### The value at an offset (R71, R73) -/

theorem State.windowRead_of_regAt {off : Nat} {r : Reg} (h : regAt off = some r) (s : State) :
    s.windowRead off = s.readReg r := by
  rw [State.windowRead, h]

theorem State.windowRead_of_unmapped {off : Nat} (h : Unmapped off) (s : State) : s.windowRead off = 0 := by
  rw [State.windowRead, regAt_eq_none_of_unmapped h]

/-- The address map of R71 leaves out no aligned offset of the window but those it calls unmapped. -/
theorem exists_regAt_of_not_unmapped {off : Nat} (halign : off % 4 = 0) (hin : off < 0x100) (h : ¬Unmapped off) :
    ∃ r, regAt off = some r := by
  have hall : ∀ j < 64, ¬Unmapped (4 * j) → (regAt (4 * j)).isSome := by decide
  have hoff : 4 * (off / 4) = off := by omega
  have := hall (off / 4) (by omega)
  rw [hoff] at this
  exact Option.isSome_iff_exists.mp (this h)

/-! ### A host read (R73) -/

/-- Settles O46: an aligned read inside the window is taken, and its value is the free value or the window's. -/
theorem hostReadHasNoSideEffect : Obligations.HostReadHasNoSideEffect := by
  intro s off halign hin
  have hread : hostStep (.read 4 off) s = .next (s.hostRead off) := guardAccess_of_inWindow halign hin _
  rw [hread]
  refine ⟨fun hbusy hid hstatus => ?busy, fun hidle hunmapped => ?unmapped, fun r hreadable hr => ?mapped⟩
  case busy => rw [State.hostRead_of_busy hbusy (not_or.mpr ⟨hid, hstatus⟩)]
  case unmapped => rw [State.hostRead_of_readable (.inl hidle), State.windowRead_of_unmapped hunmapped]
  case mapped => rw [State.hostRead_of_readable hreadable, State.windowRead_of_regAt hr]

/-! ### A host write (R74) -/

theorem State.hostWrite_of_unmapped {off : Nat} (h : Unmapped off) (s : State) (v : Word) : s.hostWrite off v = s := by
  rw [State.hostWrite, regAt_eq_none_of_unmapped h]

theorem State.hostWrite_of_regAt {off : Nat} {r : Reg} (h : regAt off = some r) (s : State) (v : Word) :
    s.hostWrite off v = if s.status.busy then s.setWdrop true else s.writeReg v r := by
  rw [State.hostWrite, h]

theorem State.hostWrite_of_idle {s : State} {off : Nat} {r : Reg} (hidle : s.status.busy = false)
    (h : regAt off = some r) (v : Word) : s.hostWrite off v = s.writeReg v r := by
  rw [State.hostWrite_of_regAt h, hidle]
  rfl

/-- A write of a mapped offset while BUSY = 0 is taken and is the write of its register. -/
theorem hostStep_write_of_idle {s : State} {off : Nat} {r : Reg} (hidle : s.status.busy = false)
    (h : regAt off = some r) (v : Word) : hostStep (.write 4 off v) s = .next (s.writeReg v r) := by
  obtain ⟨halign, hin⟩ := regAt_some_bound h
  rw [← State.hostWrite_of_idle hidle h]
  exact guardAccess_of_inWindow halign hin _

theorem State.writeReg_status (s : State) (v : Word) :
    s.writeReg v .status = { s with status := { s.status with wdrop := s.status.wdrop && !v.getLsbD 16 } } := by
  rw [State.writeReg]
  cases v.getLsbD 16
  · rw [Bool.not_false, Bool.and_true]; rfl
  · rw [Bool.not_true, Bool.and_false]; rfl

theorem State.writeBurst_of_lt {k : Fin 9} (h : k.val < 8) (s : State) (v : Word) :
    s.writeBurst k v = { s with burst := s.burst.set k.val v } := dif_pos h

theorem State.writeBurst_eight (s : State) (v : Word) : s.writeBurst 8 v = { s with burst8 := v.extractLsb' 24 8 } := rfl

/-- Settles O50: the guard and the address map lead each offset to the write of its register. -/
theorem hostWriteByRegister : Obligations.HostWriteByRegister := by
  refine ⟨fun s off v halign hin => ⟨fun hoff => ?unmapped, fun hoff hbusy => ?busy⟩, fun s v hidle =>
    ⟨fun off hoff => ?readOnly, ⟨_, hostStep_write_of_idle hidle regAt_cmd v, rfl⟩, ?status,
      hostStep_write_of_idle hidle regAt_ccfilt v, fun k => ?burst,
      hostStep_write_of_idle hidle (regAt_burst 8) v, fun k => hostStep_write_of_idle hidle (regAt_info k) v⟩⟩
  case unmapped =>
    exact (guardAccess_of_inWindow halign hin _).trans (by rw [State.hostWrite_of_unmapped hoff])
  case busy =>
    obtain ⟨r, hr⟩ := exists_regAt_of_not_unmapped halign hin hoff
    exact (guardAccess_of_inWindow halign hin _).trans (by rw [State.hostWrite_of_regAt hr, if_pos hbusy]; rfl)
  case readOnly =>
    fin_cases hoff
    · exact hostStep_write_of_idle hidle regAt_id v
    · exact hostStep_write_of_idle hidle regAt_clsr v
    · exact hostStep_write_of_idle hidle regAt_str v
    · exact hostStep_write_of_idle hidle regAt_bptcr v
    · exact hostStep_write_of_idle hidle regAt_rsr v
    · exact hostStep_write_of_idle hidle regAt_crcr v
  case status => rw [hostStep_write_of_idle hidle regAt_status, State.writeReg_status]
  case burst =>
    exact (hostStep_write_of_idle hidle (regAt_burst k.castSucc) v).trans
      (congrArg Host.Outcome.next (State.writeBurst_of_lt k.isLt s v))

end Sys2Proof.Machine
end

section
/-! SUPPORT. The burst and the information bits in the registers that hold them (20_memory R75): after a register write, and
in the window. -/

namespace Sys2Proof.Machine

/-! ### A register after a write of a register -/

theorem State.burstWord_of_lt {k : Nat} (h : k < 8) (s : State) : s.burstWord k = s.burst[k] := dif_pos h

theorem State.infoWord_of_lt {k : Nat} (h : k < 3) (s : State) : s.infoWord k = s.info[k] := dif_pos h

theorem State.burstWord_writeBurst_of_ne {k : Fin 9} {j : Nat} (h : j ≠ k) (s : State) (v : Word) :
    (s.writeBurst k v).burstWord j = s.burstWord j := by
  by_cases hk : k.val < 8
  · rw [State.writeBurst_of_lt hk]
    unfold State.burstWord
    split
    · exact Vector.getElem_set_ne hk _ h.symm
    · rfl
  · obtain rfl : k = 8 := by omega
    have hj : j ≠ 8 := h
    rw [State.writeBurst_eight]
    unfold State.burstWord
    rw [if_neg hj, if_neg hj]

/-- All 32 bits are stored, of BURST8 the top 8 (R40). -/
theorem State.getLsbD_burstWord_writeBurst_self {k : Fin 9} {b : Nat} (hb : b < 32) (hstored : k.val = 8 → 24 ≤ b)
    (s : State) (v : Word) : ((s.writeBurst k v).burstWord k).getLsbD b = v.getLsbD b := by
  by_cases hk : k.val < 8
  · rw [State.writeBurst_of_lt hk, State.burstWord_of_lt hk, Vector.getElem_set_self]
  · obtain rfl : k = 8 := by omega
    have htop : 24 ≤ b := hstored rfl
    have hlow : ¬b < 24 := by omega
    have hwidth : b - 24 < 8 := by omega
    rw [State.writeBurst_eight, show ((8 : Fin 9) : Nat) = 8 from rfl, State.burstWord_eight,
      BitVec.getLsbD_append, if_neg hlow, BitVec.getLsbD_extractLsb', Nat.add_sub_cancel' htop]
    simp [hwidth]

theorem State.infoWord_writeInfo {j : Nat} (hj : j < 3) (k : Fin 3) (s : State) (v : Word) :
    (s.writeInfo k v).infoWord j = if j = k then v else s.infoWord j := by
  rw [State.infoWord_of_lt hj, State.infoWord_of_lt hj, State.writeInfo, State.setInfo, Vector.getElem_set]
  simp only [eq_comm]

/-! ### The bits after a write of a register -/

theorem State.burstBit_writeBurst (k : Fin 9) {i : Nat} (hi : i < 264) (s : State) (v : Word) :
    (s.writeBurst k v).burstBit i = if i / 32 = k then v.getLsbD (31 - i % 32) else s.burstBit i := by
  unfold State.burstBit
  split
  case isTrue h =>
    rw [h]
    exact State.getLsbD_burstWord_writeBurst_self (by omega) (by omega) s v
  case isFalse h => rw [State.burstWord_writeBurst_of_ne h]

theorem State.infoBit_writeInfo (k : Fin 3) {i : Nat} (hi : i < 96) (s : State) (v : Word) :
    (s.writeInfo k v).infoBit i = if i / 32 = k then v.getLsbD (31 - i % 32) else s.infoBit i := by
  unfold State.infoBit
  rw [State.infoWord_writeInfo (by omega)]
  split <;> rfl

/-- Settles O53: the write at the register's offset is the write of the register. -/
theorem registerBitsInTransmissionOrder : Obligations.RegisterBitsInTransmissionOrder := by
  refine fun s v hidle => ⟨fun k i hi => ?burst, fun k i hi => ?info⟩
  case burst =>
    rw [State.hostWrite_of_idle hidle (regAt_burst k)]
    exact s.burstBit_writeBurst k hi v
  case info =>
    rw [State.hostWrite_of_idle hidle (regAt_info k)]
    exact s.infoBit_writeInfo k hi v

/-! ### The bits and the bytes in the window -/

theorem State.getLsbD_infoByte (s : State) (k : Nat) {j : Nat} (hj : j < 8) :
    (s.infoByte k).getLsbD j = s.infoBit (8 * k + (7 - j)) := by
  simp [State.infoByte, hj]

theorem State.infoByte_eq_extractLsb' (s : State) (k : Nat) :
    s.infoByte k = (s.infoWord (k / 4)).extractLsb' (24 - 8 * (k % 4)) 8 := by
  refine BitVec.eq_of_getLsbD_eq fun j hj => ?_
  have hword : (8 * k + (7 - j)) / 32 = k / 4 := by omega
  have hbit : 31 - (8 * k + (7 - j)) % 32 = 24 - 8 * (k % 4) + j := by omega
  rw [s.getLsbD_infoByte k hj, State.infoBit, hword, hbit, BitVec.getLsbD_extractLsb']
  simp [hj]

theorem State.windowRead_burst_of_lt {k : Nat} (h : k < 9) (s : State) : s.windowRead (0x040 + 4 * k) = s.burstWord k :=
  s.windowRead_burst ⟨k, h⟩

theorem State.windowRead_info_of_lt {k : Nat} (h : k < 3) (s : State) : s.windowRead (0x080 + 4 * k) = s.infoWord k :=
  s.windowRead_info ⟨k, h⟩

/-- Settles O54: the window shows BURST and INFO as the words that the bits and bytes are read from. -/
theorem bitsAndBytesInTheWindow : Obligations.BitsAndBytesInTheWindow := by
  refine fun s => ⟨fun i hi => ?burstBit, fun i hi => ?infoBit, fun k hk => ⟨?infoByte, fun j hj => ?byteBit⟩⟩
  case burstBit => rw [State.windowRead_burst_of_lt (by omega), State.burstBit]
  case infoBit => rw [State.windowRead_info_of_lt (by omega), State.infoBit]
  case infoByte => rw [State.windowRead_info_of_lt (by omega), s.infoByte_eq_extractLsb']
  case byteBit => rw [s.getLsbD_infoByte k (by omega), show 7 - (7 - j) = j by omega]

end Sys2Proof.Machine
end

section
/-! SUPPORT. The platform's instances (20_memory R83, 60_exceptions R280): no step changes the sequence of free values that a
core draws from, and each update of the platform reaches one of its instances. -/

namespace Sys2Proof.Machine

/-! ### The sequence of free values is kept (R280) -/

theorem crcchkResult_stream (s : State) (computed recv : BitVec 24) :
    (crcchkResult s computed recv).stream = s.stream := by
  rw [crcchkResult_frame]

theorem execWith_stream {k : Const} {i : Instr} {s t : State} (h : execWith k i s = .next t) : t.stream = s.stream := by
  cases i <;> rw [← Host.Outcome.next.inj h]
  case nop | clear => rfl
  case classify => rw [classify_frame]
  case slottype => rw [slottype_frame]
  case bptc => rw [bptc_frame]
  case rsdecNone | rsdecVlc | rsdecTlc => rw [rsdec_frame]
  case crcchkVlc | crcchkTlc | crcchkPi | crcchkDh | crcchkCsbk => exact crcchkResult_stream _ _ _

theorem State.writeReg_stream (s : State) (v : Word) (r : Reg) : (s.writeReg v r).stream = s.stream := by
  cases r with
  | status => rw [State.writeReg_status]
  | burst k =>
    rw [State.writeReg, State.writeBurst]
    split <;> rfl
  | id | cmd | ccfilt | clsr | str | bptcr | rsr | crcr | info _ => rfl

theorem hostStep_stream {op : HostOp} {s t : State} (h : hostStep op s = .next t) : t.stream = s.stream := by
  rcases hostStep_cases h with ⟨_, off, -, -, rfl⟩ | ⟨_, off, v, -, -, rfl⟩ | ⟨-, rfl⟩ | ⟨-, rfl⟩
  · rcases s.hostRead_cases off with ⟨-, -, heq⟩ | ⟨-, heq⟩ <;> rw [heq]
  · rcases s.hostWrite_cases off v with ⟨-, heq⟩ | ⟨r, -, -, heq⟩ | ⟨r, -, -, heq⟩ <;> rw [heq]
    · rfl
    · exact s.writeReg_stream v r
  · rw [State.hostPoll_eq]
  · rfl

theorem stepWith_stream {k : Const} {s t : State} (h : stepWith k s = .next t) : t.stream = s.stream := by
  unfold stepWith stepOf at h
  cases hturn : s.turn with rw [hturn] at h
  | idle => cases h; rfl
  | core =>
    simp only [coreStepOf] at h
    split at h
    · exact execWith_stream h
    · cases h; rfl
  | input op s' =>
    obtain ⟨rest, -, rfl⟩ := State.eq_popInput_of_turn hturn
    exact hostStep_stream (s := s.popInput rest) h

/-! ### The instances after a reset input and after a host access (R83) -/

theorem Platform.getElem?_postReset_of_ne {n m : Nat} (h : m ≠ n) (p : Platform) :
    (p.postReset n).instances[m]? = p.instances[m]? := by
  unfold Platform.postReset
  split
  · rfl
  · rw [Platform.instances_setAt, List.getElem?_set_ne h.symm]

theorem Platform.getElem?_postRead {p : Platform} {n : Nat} {x : Instance} (h : p.instances[n]? = some x)
    (width addr : Nat) : (p.postRead width addr).instances[n]? =
      some (if x.holds addr then x.post (.read width (addr - x.base)) else x) := by
  rw [Platform.postRead, Platform.instances_map, List.getElem?_map, h]
  rfl

theorem Platform.getElem?_postWrite {p : Platform} {n : Nat} {x : Instance} (h : p.instances[n]? = some x)
    (width addr : Nat) (v : Word) : (p.postWrite width addr v).instances[n]? =
      some (if x.holds addr then x.post (.write width (addr - x.base) v) else x) := by
  rw [Platform.postWrite, Platform.instances_map, List.getElem?_map, h]
  rfl

/-- With disjoint windows an address lies in at most one of them. -/
theorem Platform.Disjoint.not_holds {p : Platform} (hdisjoint : p.Disjoint) {n m addr : Nat} {x y : Instance} (h : m ≠ n)
    (hx : p.instances[n]? = some x) (hy : p.instances[m]? = some y) (hholds : x.holds addr = true) :
    ¬y.holds addr = true := by
  obtain ⟨hn, rfl⟩ := List.getElem?_eq_some_iff.mp hx
  obtain ⟨hm, rfl⟩ := List.getElem?_eq_some_iff.mp hy
  rw [Platform.Disjoint, List.pairwise_iff_getElem] at hdisjoint
  simp only [Instance.holds, Bool.and_eq_true, decide_eq_true_eq] at hholds ⊢
  rcases Nat.lt_or_gt_of_ne h with hlt | hlt
  · have := hdisjoint m n hm hn hlt; omega
  · have := hdisjoint n m hn hm hlt; omega

/-- Settles O60: each update of the platform sets one place, and a step keeps the sequence that its core draws from. -/
theorem instancesAreIsolated : Obligations.InstancesAreIsolated := by
  refine ⟨fun p => Nat.succ_pos _, fun k p q n m hstep hmn => ?others, fun k p q n x hstep hx => ?stepped,
    fun p n m hmn => p.getElem?_postReset_of_ne hmn,
    fun p n m width addr v x y hdisjoint hmn hx hy hholds => ?access⟩
  case others =>
    rcases Platform.stepAtWith_cases hstep with ⟨-, rfl⟩ | ⟨x, s, -, -, rfl⟩
    · rfl
    · rw [Platform.instances_setAt, List.getElem?_set_ne hmn.symm]
  case stepped =>
    rcases Platform.stepAtWith_cases hstep with ⟨hnone, -⟩ | ⟨x', s, hx', hs, rfl⟩
    · simp [hx] at hnone
    · obtain rfl : x = x' := Option.some.inj (hx.symm.trans hx')
      obtain ⟨hn, -⟩ := List.getElem?_eq_some_iff.mp hx
      exact ⟨s, hs, stepWith_stream hs, by rw [Platform.instances_setAt, List.getElem?_set_self hn]⟩
  case access =>
    have hother := hdisjoint.not_holds hmn hx hy hholds
    rw [Platform.getElem?_postRead hx, Platform.getElem?_postRead hy, Platform.getElem?_postWrite hx,
      Platform.getElem?_postWrite hy]
    simp only [if_pos hholds, if_neg hother, and_self]

end Sys2Proof.Machine
end

section
/-! SUPPORT. The command word (30_encoding R101 to R105): legal fields give a command, illegal fields give the error that R104
and R273 name, and so `decode` and `encode` agree; and the step of `wait` (R107). -/

namespace Sys2Proof

/-! ### The fields and the word -/

/-- The three fields cover the word (R101). -/
theorem CommandFields.word_commandFields (w : Word) : (commandFields w).word = w := by
  have hhigh : w.extractLsb' 8 24 ++ w.extractLsb' 4 4 = w.extractLsb' 4 28 :=
    BitVec.extractLsb'_append_extractLsb'_eq_extractLsb' rfl
  have hall : w.extractLsb' 4 28 ++ w.extractLsb' 0 4 = w.extractLsb' 0 32 :=
    BitVec.extractLsb'_append_extractLsb'_eq_extractLsb' rfl
  rw [CommandFields.word, commandFields, hhigh, hall, BitVec.extractLsb'_eq_self]

theorem CommandFields.wellFormed_iff {f : CommandFields} :
    f.wellFormed = true ↔ f.rsv = 0 ∧ f.op.toNat ≤ 6 ∧ f.selLegal = true := by
  simp [CommandFields.wellFormed, CommandFields.opDefined, and_assoc]

/-- R102: the seven opcodes, those without a selector, RSDEC and CRCCHK (R103). -/
theorem op_cases {op : BitVec 4} (h : op.toNat ≤ 6) :
    (op = 0 ∨ op = 1 ∨ op = 2 ∨ op = 3 ∨ op = 6) ∨ op = 4 ∨ op = 5 := by
  revert op; decide

/-- R103: RSDEC's three selectors. -/
theorem rsdec_sel_cases {sel : BitVec 4} (h : sel.toNat ≤ 2) : sel = 0 ∨ sel = 1 ∨ sel = 2 := by
  revert sel; decide

/-- R103: CRCCHK's five selectors. -/
theorem crcchk_sel_cases {sel : BitVec 4} (h : 1 ≤ sel.toNat ∧ sel.toNat ≤ 5) :
    sel = 1 ∨ sel = 2 ∨ sel = 3 ∨ sel = 4 ∨ sel = 5 := by
  revert sel; decide

/-! ### Legal fields -/

/-- R105: legal fields are those of one of the 13 commands. -/
theorem CommandFields.exists_fields_eq {f : CommandFields} (h : f.wellFormed = true) : ∃ i : Instr, i.fields = f := by
  obtain ⟨rsv, sel, op⟩ := f
  obtain ⟨rfl, hop, hsel⟩ := CommandFields.wellFormed_iff.mp h
  rcases op_cases hop with hop | rfl | rfl
  · obtain rfl : sel = 0 := by rcases hop with rfl | rfl | rfl | rfl | rfl <;> simpa [CommandFields.selLegal] using hsel
    rcases hop with rfl | rfl | rfl | rfl | rfl
    exacts [⟨.nop, rfl⟩, ⟨.classify, rfl⟩, ⟨.slottype, rfl⟩, ⟨.bptc, rfl⟩, ⟨.clear, rfl⟩]
  · rcases rsdec_sel_cases (by simpa [CommandFields.selLegal] using hsel) with rfl | rfl | rfl
    exacts [⟨.rsdecNone, rfl⟩, ⟨.rsdecVlc, rfl⟩, ⟨.rsdecTlc, rfl⟩]
  · rcases crcchk_sel_cases (by simpa [CommandFields.selLegal] using hsel) with rfl | rfl | rfl | rfl | rfl
    exacts [⟨.crcchkVlc, rfl⟩, ⟨.crcchkTlc, rfl⟩, ⟨.crcchkPi, rfl⟩, ⟨.crcchkDh, rfl⟩, ⟨.crcchkCsbk, rfl⟩]

theorem decode_encode (i : Instr) : decode (encode i) = .ok i := by cases i <;> rfl

theorem exists_encode_eq {w : Word} (h : (commandFields w).wellFormed = true) : ∃ i, encode i = w := by
  obtain ⟨i, hi⟩ := CommandFields.exists_fields_eq h
  exact ⟨i, by rw [encode, hi, CommandFields.word_commandFields]⟩

/-! ### Illegal fields -/

theorem decodeFields_of_rsv_ne {f : CommandFields} (h : f.rsv ≠ 0) : decodeFields f = .error .illegalOpcode := if_pos h

theorem decodeFields_of_op_gt {f : CommandFields} (h : 6 < f.op.toNat) : decodeFields f = .error .illegalOpcode := by
  unfold decodeFields
  split
  · rfl
  · split
    case h_8 => rfl
    all_goals omega

theorem decodeUnselected_of_ne {sel : BitVec 4} (h : sel ≠ 0) (i : Instr) :
    decodeUnselected sel i = .error .illegalSelector := if_neg h

theorem decodeRsdec_of_gt {sel : BitVec 4} (h : 2 < sel.toNat) : decodeRsdec sel = .error .illegalSelector := by
  unfold decodeRsdec
  split
  case h_4 => rfl
  all_goals omega

theorem decodeCrcchk_of_outside {sel : BitVec 4} (h : ¬(1 ≤ sel.toNat ∧ sel.toNat ≤ 5)) :
    decodeCrcchk sel = .error .illegalSelector := by
  unfold decodeCrcchk
  split
  case h_6 => rfl
  all_goals omega

/-- The selector is looked at last (R273). -/
theorem decodeFields_of_selLegal_eq_false {f : CommandFields} (hrsv : f.rsv = 0) (hop : f.op.toNat ≤ 6)
    (h : f.selLegal = false) : decodeFields f = .error .illegalSelector := by
  obtain ⟨rsv, sel, op⟩ := f
  obtain rfl : rsv = 0 := hrsv
  rcases op_cases hop with hop | rfl | rfl
  · rcases hop with rfl | rfl | rfl | rfl | rfl <;>
      exact decodeUnselected_of_ne (by simpa [CommandFields.selLegal] using h) _
  · exact decodeRsdec_of_gt (by simpa [CommandFields.selLegal] using h)
  · exact decodeCrcchk_of_outside (by simpa [CommandFields.selLegal] using h)

/-- R104, R273: a word with legal fields encodes a command; any other has RSV or OP wrong, or else SEL. -/
theorem decode_cases (w : Word) :
    (∃ i, encode i = w ∧ decode w = .ok i) ∨
      ((w.extractLsb' 8 24 ≠ 0 ∨ 6 < (w.extractLsb' 0 4).toNat) ∧ decode w = .error .illegalOpcode) ∨
      ((w.extractLsb' 8 24 = 0 ∧ (w.extractLsb' 0 4).toNat ≤ 6 ∧ (commandFields w).selLegal = false) ∧
        decode w = .error .illegalSelector) := by
  by_cases hrsv : w.extractLsb' 8 24 = 0
  case neg => exact .inr (.inl ⟨.inl hrsv, decodeFields_of_rsv_ne hrsv⟩)
  by_cases hop : (w.extractLsb' 0 4).toNat ≤ 6
  case neg => exact .inr (.inl ⟨.inr (Nat.lt_of_not_le hop), decodeFields_of_op_gt (Nat.lt_of_not_le hop)⟩)
  cases hsel : (commandFields w).selLegal
  case false => exact .inr (.inr ⟨⟨hrsv, hop, rfl⟩, decodeFields_of_selLegal_eq_false hrsv hop hsel⟩)
  obtain ⟨i, rfl⟩ := exists_encode_eq (CommandFields.wellFormed_iff.mpr ⟨hrsv, hop, hsel⟩)
  exact .inl ⟨i, rfl, decode_encode i⟩

end Sys2Proof

namespace Sys2Proof.Machine

/-! ### Decoding and encoding (R104, R105) -/

/-- Settles O3: a word that decodes to a command encodes it, since an illegal word decodes to an error. -/
theorem decodeEncodeAgree : Obligations.DecodeEncodeAgree := by
  refine fun w i => ⟨fun hdecode => ?_, fun hw => hw ▸ decode_encode i⟩
  rcases decode_cases w with ⟨j, rfl, hj⟩ | ⟨-, herror⟩ | ⟨-, herror⟩
  · rw [Except.ok.inj (hdecode.symm.trans hj)]
  · cases hdecode.symm.trans herror
  · cases hdecode.symm.trans herror

/-- R105: the list pairs each command with its word. -/
theorem mem_legalWords_iff (i : Instr) (w : Word) : (i, w) ∈ legalWords ↔ w = encode i := by
  have hlist : ∀ p ∈ legalWords, p.2 = encode p.1 := by decide
  have hevery : (i, encode i) ∈ legalWords := by cases i <;> decide
  exact ⟨hlist (i, w), fun hw => hw ▸ hevery⟩

/-- Settles O2: the listed words are the encodings. -/
theorem decodeAcceptsExactlyTheLegalWords : Obligations.DecodeAcceptsExactlyTheLegalWords := fun w i =>
  (decodeEncodeAgree w i).trans (mem_legalWords_iff i w).symm

/-- Settles O4: a word that decodes to an error is no command's, and so has the fields of one of the two errors. -/
theorem illegalWordErrorCode : Obligations.IllegalWordErrorCode := by
  refine fun w code => ⟨fun herror => ?_, ?_⟩
  · rcases decode_cases w with ⟨i, -, hdecode⟩ | ⟨hopcode, hdecode⟩ | ⟨hselector, hdecode⟩
    · cases herror.symm.trans hdecode
    · exact .inl ⟨Except.error.inj (herror.symm.trans hdecode), hopcode⟩
    · exact .inr ⟨Except.error.inj (herror.symm.trans hdecode), hselector⟩
  · rintro (⟨rfl, hrsv | hop⟩ | ⟨rfl, hrsv, hop, hsel⟩)
    · exact decodeFields_of_rsv_ne hrsv
    · exact decodeFields_of_op_gt hop
    · exact decodeFields_of_selLegal_eq_false hrsv hop hsel

/-- Settles O1: seven words are the encodings of their commands; one has OP 7 and one RSV 1, and the other three
have a selector that R103 does not list. -/
theorem sampleWordsDecode : Obligations.SampleWordsDecode :=
  ⟨decode_encode .nop, decode_encode .classify, decode_encode .slottype, decode_encode .bptc, decode_encode .rsdecVlc,
    decode_encode .crcchkCsbk, decode_encode .clear, decodeFields_of_op_gt (by decide),
    decodeFields_of_selLegal_eq_false rfl (by decide) rfl, decodeFields_of_selLegal_eq_false rfl (by decide) rfl,
    decodeFields_of_selLegal_eq_false rfl (by decide) rfl, decodeFields_of_rsv_ne (by decide)⟩

/-! ### The polling loop (R107) -/

/-- Settles O55: the step of `wait` is one poll. -/
theorem waitRepeatsWhileBusy : Obligations.WaitRepeatsWhileBusy := fun s => congrArg Host.Outcome.next s.hostPoll_eq

end Sys2Proof.Machine
end

section
/-! SUPPORT. The issue and the completion of a command (40_control R130 to R136): the step at the core's turn, what every command
does to STATUS, NOP, CLEAR and the illegal words. -/

namespace Sys2Proof.Machine

/-! ### What every command does to STATUS (R131, R270) -/

theorem classify_status (k : Const) (s : State) :
    ∃ err ∈ .none :: errorsOf .classify, (classify k s).status = .after s.cmd s.status.wdrop err := by
  rw [classify_eq]
  exact ⟨_, by split <;> simp [errorsOf], rfl⟩

theorem slottype_status (k : Const) (s : State) :
    ∃ err ∈ .none :: errorsOf .slottype, (slottype k s).status = .after s.cmd s.status.wdrop err := by
  rcases slottypeResult_cases s (stDecode k s.slotTypeWord) with
    ⟨_, -, heq⟩ | ⟨_, _, -, -, -, heq⟩ | ⟨_, _, -, -, heq⟩ <;> rw [slottype, heq]
  · exact ⟨.slotTypeError, by simp [errorsOf], rfl⟩
  · exact ⟨.ccMismatch, by simp [errorsOf], rfl⟩
  · exact ⟨.none, by simp, rfl⟩

theorem bptc_status (k : Const) (s : State) :
    ∃ err ∈ .none :: errorsOf .bptc, (bptc k s).status = .after s.cmd s.status.wdrop err := by
  rcases bptc_cases k s with ⟨-, heq⟩ | ⟨-, heq⟩ <;> rw [heq]
  · exact ⟨.none, by simp, rfl⟩
  · exact ⟨.bptcUncorrectable, by simp [errorsOf], rfl⟩

theorem rsdec_status (k : Const) (m : BitVec 24) (s : State) :
    ∃ err ∈ [.none, .rsUncorrectable], (rsdec k m s).status = .after s.cmd s.status.wdrop err := by
  rcases rsdec_cases k m s with ⟨_, _, _, -, heq⟩ | ⟨-, heq⟩ <;> rw [heq]
  · exact ⟨.none, by simp, rfl⟩
  · exact ⟨.rsUncorrectable, by simp, rfl⟩

theorem crcchkResult_status (s : State) (computed recv : BitVec 24) :
    ∃ err ∈ [.none, .crcMismatch], (crcchkResult s computed recv).status = .after s.cmd s.status.wdrop err := by
  rw [crcchkResult_eq]
  exact ⟨_, by split <;> simp, rfl⟩

/-- Every command answers a next state with STATUS completed: without an error or with one of its own, and with WDROP kept
unless the command is CLEAR. -/
theorem execWith_status (k : Const) (i : Instr) (s : State) :
    ∃ t, execWith k i s = .next t ∧ ∃ err ∈ .none :: errorsOf i,
      t.status = .after s.cmd (if i = .clear then false else s.status.wdrop) err := by
  cases i <;> refine ⟨_, rfl, ?_⟩
  case nop | clear => exact ⟨.none, List.mem_cons_self, rfl⟩
  case classify => exact classify_status k s
  case slottype => exact slottype_status k s
  case bptc => exact bptc_status k s
  case rsdecNone | rsdecVlc | rsdecTlc => exact rsdec_status k _ s
  case crcchkVlc | crcchkTlc | crcchkPi | crcchkDh | crcchkCsbk => exact crcchkResult_status s _ _

/-- R131, with any constants: the completion that `execWith_status` gives, field by field. -/
theorem execWith_completes (k : Const) (i : Instr) (s : State) : ∃ t, execWith k i s = .next t ∧
    t.status.busy = false ∧ t.status.done = true ∧ (t.status.ok = true ↔ t.status.err = .none) ∧
    t.status.lastop = s.cmd.extractLsb' 0 4 ∧ (i ≠ .clear → t.status.wdrop = s.status.wdrop) := by
  obtain ⟨t, hexec, err, -, hstatus⟩ := execWith_status k i s
  refine ⟨t, hexec, ?_⟩
  rw [hstatus]
  exact ⟨rfl, rfl, decide_eq_true_iff, rfl, fun hclear => if_neg hclear⟩

/-- Settles O8: the commands complete with any constants, and so with the default ones. -/
theorem everyCommandCompletes : Obligations.EveryCommandCompletes :=
  ⟨fun i s => exec_eq_execWith i s ▸ execWith_completes const i s, execWith_completes,
    fun i s => ⟨exec_eq_execWith i s, step_eq_stepWith s⟩⟩

/-! ### The step at the core's turn (R131) -/

theorem step_eq_coreStep {s : State} (h : s.CoreTurn) : step s = coreStepOf exec s := by
  rw [step, stepOf, State.turn_of_coreTurn h]

theorem step_of_decode_ok {s : State} {i : Instr} (h : s.CoreTurn) (hdecode : decode s.cmd = .ok i) :
    step s = exec i s := by
  rw [step_eq_coreStep h, coreStepOf, hdecode]

theorem step_of_decode_error {s : State} {code : ErrorCode} (h : s.CoreTurn) (hdecode : decode s.cmd = .error code) :
    step s = .next (s.complete code) := by
  rw [step_eq_coreStep h, coreStepOf, hdecode]
  rfl

theorem State.coreTurn_withFetchWord (s : State) (nbits w : Nat) : (s.withFetchWord nbits w).CoreTurn :=
  ⟨rfl, .inr rfl⟩

theorem State.withFetchWord_toNat_cmd (s : State) (nbits : Nat) (w : Word) : (s.withFetchWord nbits w.toNat).cmd = w :=
  (BitVec.ofNat_toNat 32 w).trans (BitVec.setWidth_eq w)

/-- Settles O5: the word that `withFetchWord` places is the encoding, and it is the core's turn. -/
theorem stepRunsTheDecodedCommand : Obligations.StepRunsTheDecodedCommand := by
  refine ⟨fun s i hturn hdecode => step_of_decode_ok hturn hdecode, fun s i => ?_⟩
  refine step_of_decode_ok (s.coreTurn_withFetchWord _ _) ?_
  rw [State.withFetchWord_toNat_cmd, decode_encode]

/-! ### The issue (R130) -/

/-- Settles O7: the write at the offset of CMD is the issue of the word. -/
theorem cmdWriteIssues : Obligations.CmdWriteIssues := fun s v hidle =>
  ⟨s.issue v, hostStep_write_of_idle hidle regAt_cmd v, rfl⟩

/-! ### NOP (R134) and CLEAR (R135) -/

theorem decode_eq_ok_nop_iff (w : Word) : decode w = .ok .nop ↔ w = 0x00000000 := decodeEncodeAgree w .nop

theorem decode_eq_ok_clear_iff (w : Word) : decode w = .ok .clear ↔ w = 0x00000006 := decodeEncodeAgree w .clear

/-- NOP is the only command whose OP is 0 (R102). -/
theorem eq_nop_of_encode_op {i : Instr} (h : (encode i).extractLsb' 0 4 = 0) : i = .nop := by
  revert h
  cases i <;> decide

/-- Settles O10: NOP is a completion, and a word with OP = 0 that encodes a command is that of NOP. -/
theorem nopOnlyCompletes : Obligations.NopOnlyCompletes := by
  refine ⟨fun s => rfl, fun s hturn hcmd => ?step, decode_eq_ok_nop_iff, fun w hop hne => ?illegal⟩
  case step =>
    rw [step_of_decode_ok hturn ((decode_eq_ok_nop_iff _).mpr hcmd), exec_nop, State.complete_eq, hcmd]
    rfl
  case illegal =>
    rcases decode_cases w with ⟨i, rfl, -⟩ | ⟨-, herror⟩ | ⟨-, herror⟩
    · rw [eq_nop_of_encode_op hop] at hne
      exact absurd rfl hne
    · exact ⟨_, herror⟩
    · exact ⟨_, herror⟩

theorem clear_status (s : State) :
    (s.clearResults.complete .none).status = .after s.cmd false .none := rfl

/-- Settles O11: CLEAR writes the reset values and completes, and the words are those that the window reads after a reset. -/
theorem clearResetsTheResults : Obligations.ClearResetsTheResults := by
  refine ⟨fun s => rfl, fun s t hexec => ?_, decode_eq_ok_clear_iff⟩
  obtain rfl := eq_of_exec_eq_next hexec (exec_clear s)
  obtain ⟨-, -, -, -, hclsr, hstr, hbptcr, hrsr, hcrcr, -⟩ := resetValues
  refine ⟨hclsr, hstr, hbptcr, hrsr, hcrcr, fun hcmd => ?_⟩
  have hword : (Status.after 0x00000006 false .none).word = 0x00000606 := by decide
  rw [clear_status, hcmd, hword]

/-! ### Illegal words (R136) -/

theorem exists_decode_error_iff (w : Word) :
    (∃ code, decode w = .error code) ↔ ∀ i : Instr, (i, w) ∉ legalWords := by
  simp only [← decodeAcceptsExactlyTheLegalWords w]
  cases decode w with
  | ok i => simp
  | error code => simp

/-- R104: an illegal word has one of two codes, and ILLEGAL_OPCODE exactly where RSV or OP is wrong. -/
theorem illegal_code_cases {w : Word} {code : ErrorCode} (h : decode w = .error code) :
    (code = .illegalOpcode ∨ code = .illegalSelector) ∧
      (code = .illegalOpcode ↔ w.extractLsb' 8 24 ≠ 0 ∨ 7 ≤ (w.extractLsb' 0 4).toNat) := by
  rcases (illegalWordErrorCode w code).mp h with ⟨rfl, hopcode⟩ | ⟨rfl, hrsv, hop, -⟩
  · exact ⟨.inl rfl, iff_of_true rfl hopcode⟩
  · exact ⟨.inr rfl, iff_of_false nofun (not_or.mpr ⟨not_not.mpr hrsv, Nat.not_le_of_lt (Nat.lt_succ_of_le hop)⟩)⟩

/-- Settles O12: the step of an illegal word completes it with the code of R104, which is an error. -/
theorem illegalWordChangesOnlyStatus : Obligations.IllegalWordChangesOnlyStatus := by
  refine ⟨rfl, rfl, exists_decode_error_iff, fun s code hturn herror => ?_⟩
  obtain ⟨hcode, hopcode⟩ := illegal_code_cases herror
  have hne : code ≠ .none := by rcases hcode with rfl | rfl <;> decide
  refine ⟨?_, hcode, fun hrsv => hopcode.mpr (.inl hrsv), hopcode⟩
  rw [step_of_decode_error hturn herror, State.complete_eq, decide_eq_false hne]

end Sys2Proof.Machine
end

section
/-! SUPPORT. The burst bits that CLASSIFY, SLOTTYPE and BPTC read (41_classify R149, 42_slottype R170, 43_bptc R190; R307):
their operands are fixed by those bits, and their results by the operands. -/

namespace Sys2Proof.Machine

/-! ### The operands, from the burst bits that hold them -/

theorem packBits_congr {n : Nat} {f g : Nat → Bool} (h : ∀ i < n, f i = g i) : packBits n f = packBits n g :=
  BitVec.eq_of_getElem_eq fun i hi => by rw [getElem_packBits, getElem_packBits, h i hi]

/-- R149: the sync field is bits 108..155. -/
theorem State.syncField_congr {s t : State} (h : ∀ i, 108 ≤ i → i ≤ 155 → s.burstBit i = t.burstBit i) :
    s.syncField = t.syncField :=
  seqInt_congr fun i hlow hhigh => h i hlow (Nat.le_of_lt_succ hhigh)

/-- R170: the slot-type word is bits 98..107 and 156..165. -/
theorem State.slotTypeWord_congr {s t : State} (hleft : ∀ i, 98 ≤ i → i ≤ 107 → s.burstBit i = t.burstBit i)
    (hright : ∀ i, 156 ≤ i → i ≤ 165 → s.burstBit i = t.burstBit i) : s.slotTypeWord = t.slotTypeWord :=
  congrArg₂ (· ++ ·) (seqInt_congr fun i hlow hhigh => hleft i hlow (Nat.le_of_lt_succ hhigh))
    (seqInt_congr fun i hlow hhigh => hright i hlow (Nat.le_of_lt_succ hhigh))

/-- R190: the BPTC block is bits 0..97 and 166..263. -/
theorem State.bptcRaw_congr {s t : State} (hleft : ∀ i ≤ 97, s.burstBit i = t.burstBit i)
    (hright : ∀ i, 166 ≤ i → i ≤ 263 → s.burstBit i = t.burstBit i) {j : Nat} (hj : j < 196) :
    s.bptcRaw j = t.bptcRaw j := by
  unfold State.bptcRaw
  split
  case isTrue hfirst => exact hleft j (Nat.le_of_lt_succ hfirst)
  case isFalse hsecond => exact hright (j + 68) (by omega) (by omega)

theorem State.matrix_congr (k : Const) {s t : State} (h : ∀ j < 196, s.bptcRaw j = t.bptcRaw j) :
    s.matrix k = t.matrix k := by
  rw [State.matrix, State.matrix, deinterleave, deinterleave]
  exact packBits_congr fun a _ => h (a * k.interleave % 196) (Nat.mod_lt _ (Nat.zero_lt_succ 195))

/-! ### The results, from the operands -/

/-- Of the state, SLOTTYPE's result and error depend on the filter only (R171). -/
theorem slottypeResult_congr {s t : State} (h : s.ccfilt = t.ccfilt) (x : StResult) :
    (slottypeResult s x).str = (slottypeResult t x).str ∧
      (slottypeResult s x).status.err = (slottypeResult t x).status.err := by
  cases x with
  | fail dist => exact ⟨rfl, rfl⟩
  | ok d errors =>
    simp only [slottypeResult, h]
    split <;> exact ⟨rfl, rfl⟩

/-- The two outcomes of BPTC (R194) as one next state: INFO is kept where the matrix does not check. -/
theorem bptcResult_eq (k : Const) (s : State) (x : Correction) (passes : Nat) :
    bptcResult k s x passes =
      ((s.setBptcr ⟨BitVec.ofNat 8 x.flips, BitVec.ofNat 3 passes, matrixOk k x.m⟩).setInfo
        (if matrixOk k x.m then packInfoBits (matrixInfo x.m) else s.info)).complete
        (if matrixOk k x.m then .none else .bptcUncorrectable) := by
  rcases bptcResult_cases k s x passes with ⟨hok, heq⟩ | ⟨hfail, heq⟩
  · rw [heq, hok]; rfl
  · rw [heq, hfail]; rfl

/-- BPTC's result and error depend on nothing of the state but the decoding, and on success INFO too (R194). -/
theorem bptcResult_congr (k : Const) (s t : State) (x : Correction) (passes : Nat) :
    (bptcResult k s x passes).bptcr = (bptcResult k t x passes).bptcr ∧
      (bptcResult k s x passes).status.err = (bptcResult k t x passes).status.err ∧
      ((bptcResult k s x passes).status.ok = true → (bptcResult k s x passes).info = (bptcResult k t x passes).info) := by
  rw [bptcResult_eq k s, bptcResult_eq k t]
  refine ⟨rfl, rfl, ?_⟩
  cases matrixOk k x.m with
  | true => exact fun _ => rfl
  | false => exact nofun

/-- Settles O19: states that agree on a command's burst bits have the same operand, and so the same result. -/
theorem burstCommandsReadOnlyTheirBits : Obligations.BurstCommandsReadOnlyTheirBits := by
  refine ⟨fun s t hsync => ?classify, fun s t hfilter hleft hright => ?slottype, fun s t hleft hright => ?bptc⟩
  case classify =>
    refine ⟨_, _, exec_classify s, exec_classify t, ?_⟩
    rw [classify_eq, classify_eq, State.syncField_congr hsync]
    exact ⟨rfl, rfl⟩
  case slottype =>
    refine ⟨_, _, exec_slottype s, exec_slottype t, ?_⟩
    rw [slottype, slottype, State.slotTypeWord_congr hleft hright]
    exact slottypeResult_congr hfilter _
  case bptc =>
    refine ⟨_, _, exec_bptc s, exec_bptc t, ?_⟩
    rw [bptc_eq, bptc_eq, State.matrix_congr const fun _ => State.bptcRaw_congr hleft hright]
    exact bptcResult_congr const s t _ _

end Sys2Proof.Machine
end

section
/-! SUPPORT. CLASSIFY (41_classify R149 to R152): the loop over the patterns finds the first one of smallest distance, and the
distances between the default patterns. -/

namespace Sys2Proof.Machine

/-! ### The first nearest pattern (R150) -/

/-- The loop of R150 keeps the match it started with, or finds a pattern that is nearer than that match and than every pattern
before it. -/
theorem nearestFrom_cases (field : BitVec 48) (ps : List (BitVec 48)) (i : Nat) (best : BestMatch) :
    nearestFrom field ps i best = best ∨
      ∃ n, ∃ hn : n < ps.length, nearestFrom field ps i best = ⟨popcount (field ^^^ ps[n]), i + n⟩ ∧
        popcount (field ^^^ ps[n]) < best.dist ∧
        ∀ m (hm : m < n), popcount (field ^^^ ps[n]) < popcount (field ^^^ ps[m]) := by
  induction ps generalizing i best with
  | nil => exact .inl rfl
  | cons p ps ih =>
    rw [nearestFrom]
    rcases ih (i + 1) (if popcount (field ^^^ p) < best.dist then ⟨popcount (field ^^^ p), i⟩ else best) with
      hkept | ⟨n, hn, hfound, hlt, hfirst⟩
    · rw [hkept]
      split
      case isTrue hnear => exact .inr ⟨0, Nat.zero_lt_succ _, rfl, hnear, nofun⟩
      case isFalse => exact .inl rfl
    · have hnearer : popcount (field ^^^ ps[n]) < popcount (field ^^^ p) ∧ popcount (field ^^^ ps[n]) < best.dist := by
        split at hlt
        case isTrue hnear => exact ⟨hlt, hlt.trans hnear⟩
        case isFalse hfar => exact ⟨hlt.trans_le (not_lt.mp hfar), hlt⟩
      obtain ⟨hhead, hbest⟩ := hnearer
      refine .inr ⟨n + 1, Nat.succ_lt_succ hn, by rw [hfound, Nat.add_right_comm]; rfl, hbest, fun m hm => ?_⟩
      cases m with
      | zero => exact hhead
      | succ m => exact hfirst m (Nat.lt_of_succ_lt_succ hm)

theorem nearestSync_dist_le_popcount (k : Const) (field : BitVec 48) (j : Fin 9) :
    (nearestSync k field).dist ≤ popcount (field ^^^ k.sync[j]) :=
  nearestFrom_dist_le_of_mem (Vector.mem_toList_iff.mpr (Vector.getElem_mem j.isLt)) _ _

/-- R150: the match found is the first pattern of smallest distance. -/
theorem nearestSync_eq_firstNearest (k : Const) (field : BitVec 48) : ∃ i : Fin 9,
    nearestSync k field = ⟨popcount (field ^^^ k.sync[i]), i⟩ ∧
      (∀ j : Fin 9, popcount (field ^^^ k.sync[i]) ≤ popcount (field ^^^ k.sync[j])) ∧
      ∀ j : Fin 9, j < i → popcount (field ^^^ k.sync[i]) < popcount (field ^^^ k.sync[j]) := by
  rcases nearestFrom_cases field k.sync.toList 0 ⟨49, 0⟩ with hkept | ⟨n, hn, hfound, -, hfirst⟩
  · have hle := nearestSync_dist_le k field
    rw [nearestSync, hkept] at hle
    exact absurd hle (by decide)
  · rw [Vector.length_toList] at hn
    simp only [Vector.getElem_toList, Nat.zero_add] at hfound hfirst
    refine ⟨⟨n, hn⟩, hfound, fun j => ?_, fun j hj => hfirst j hj⟩
    have hle := nearestSync_dist_le_popcount k field j
    rwa [nearestSync, hfound] at hle

/-- The next state of CLASSIFY with the default constants, by the match found (R150, R131). -/
theorem exec_classify_of_nearestSync {s : State} {i : Fin 9}
    (h : nearestSync const s.syncField = ⟨s.syncDistance i, i⟩) :
    exec .classify s = .next { s with
      clsr := ⟨if s.syncDistance i ≤ 6 then BitVec.ofNat 4 i else 9, BitVec.ofNat 6 (s.syncDistance i),
        BitVec.ofNat 4 i, s.syncDistance i ≤ 6⟩
      status := .after s.cmd s.status.wdrop (if s.syncDistance i ≤ 6 then .none else .classificationFailure) } := by
  rw [exec_classify, classify_eq, h]
  rfl

/-- R149: burst bit 108 is the field's most significant bit. -/
theorem State.getLsbD_syncField (s : State) {j : Nat} (hj : j < 48) :
    s.syncField.getLsbD (47 - j) = s.burstBit (108 + j) := by
  rw [State.syncField, getLsbD_seqInt, decide_eq_true (show 47 - j < 48 by omega), Bool.true_and,
    show 108 + (48 - 1 - (47 - j)) = 108 + j by omega]

/-- Settles O20: CLASSIFY writes the match that the loop of R150 finds, which is the first nearest pattern. -/
theorem classifyFindsTheFirstNearestPattern : Obligations.ClassifyFindsTheFirstNearestPattern := by
  intro s
  obtain ⟨i, hfound, hmin, hfirst⟩ := nearestSync_eq_firstNearest const s.syncField
  exact ⟨fun _ => s.getLsbD_syncField, i, hmin, hfirst, popcount_le _, exec_classify_of_nearestSync hfound⟩

/-! ### The distances between the default patterns (R152) -/

/-- Settles O21: the 81 distances are computed. -/
theorem syncPatternDistances : Obligations.SyncPatternDistances := by
  unfold Obligations.SyncPatternDistances
  decide +kernel

theorem syncDistanceTable_ge_ten : ∀ i j : Fin 9, i ≠ j → 10 ≤ (syncDistanceTable.getD i []).getD j 0 := by decide

/-- R152: two different patterns are at least 10 bits apart. -/
theorem ten_le_popcount_sync {i j : Fin 9} (h : i ≠ j) : 10 ≤ popcount (const.sync[i] ^^^ const.sync[j]) :=
  syncPatternDistances i j ▸ syncDistanceTable_ge_ten i j h

/-- The distances of a field from two patterns add up to at least the distance between the patterns. -/
theorem State.popcount_sync_le_add (s : State) (i j : Fin 9) :
    popcount (const.sync[i] ^^^ const.sync[j]) ≤ s.syncDistance i + s.syncDistance j := by
  have htriangle := popcount_xor_triangle const.sync[i] s.syncField const.sync[j]
  rwa [BitVec.xor_comm const.sync[i] s.syncField] at htriangle

/-- A pattern within 4 bits of the field is the only one at most as far as itself (R152: 10 - 4 = 6 > 4). -/
theorem State.eq_of_syncDistance_le {s : State} {i j : Fin 9} (hi : s.syncDistance i ≤ 4)
    (hj : s.syncDistance j ≤ s.syncDistance i) : j = i := by
  by_contra hne
  have hapart := ten_le_popcount_sync hne
  have hsum := s.popcount_sync_le_add j i
  omega

/-- Settles O22: the nearest pattern that CLASSIFY finds can only be the one within 4 bits. -/
theorem classifyCorrectsFourBits : Obligations.ClassifyCorrectsFourBits := by
  intro s i hnear
  obtain ⟨-, j, hmin, -, -, hexec⟩ := classifyFindsTheFirstNearestPattern s
  obtain rfl := State.eq_of_syncDistance_le hnear (hmin i)
  have haccepted : s.syncDistance j ≤ 6 := by omega
  simpa only [haccepted, if_true, decide_true] using hexec

end Sys2Proof.Machine
end

section
/-! SUPPORT. SLOTTYPE (42_slottype R170 to R173): the linearity and the minimum distance of the slot-type code, the decoder as
the search of the nearest codeword, and the next state by the decoded word. -/

namespace Sys2Proof.Machine

/-! ### The code is linear (R10), so its minimum distance is its smallest weight (R172) -/

/-- One step of the division is linear: the divisor `v` is subtracted where the leading bit is set. -/
theorem ite_xor_ite {w : Nat} (x y v : BitVec w) (b c : Bool) :
    (if b then x ^^^ v else x) ^^^ (if c then y ^^^ v else y) = if b ^^ c then x ^^^ y ^^^ v else x ^^^ y :=
  match b, c with
  | false, false => rfl
  | false, true => (BitVec.xor_assoc x y v).symm
  | true, false => show x ^^^ v ^^^ y = x ^^^ y ^^^ v by ac_rfl
  | true, true => show x ^^^ v ^^^ (y ^^^ v) = x ^^^ y by
    rw [show x ^^^ v ^^^ (y ^^^ v) = x ^^^ y ^^^ (v ^^^ v) by ac_rfl, BitVec.xor_self, BitVec.xor_zero]

/-- The remainder of polynomial division is linear in the dividend. -/
theorem polyRem_xor {w : Nat} (g : BitVec w) (deg n : Nat) (x y : BitVec w) :
    polyRem g deg n (x ^^^ y) = polyRem g deg n x ^^^ polyRem g deg n y := by
  induction n generalizing x y with
  | zero => rfl
  | succ n ih => rw [polyRem, polyRem, polyRem, ← ih, ite_xor_ite, BitVec.getLsbD_xor]

theorem countTrue_xor_mod_two (f g : Nat → Bool) (n : Nat) :
    countTrue (fun i => f i ^^ g i) n % 2 = (countTrue f n + countTrue g n) % 2 := by
  induction n with
  | zero => rfl
  | succ n ih => simp only [countTrue]; cases f n <;> cases g n <;> simp <;> omega

/-- The parity of the weight is linear. -/
theorem popcount_xor_mod_two {w : Nat} (u v : BitVec w) : popcount (u ^^^ v) % 2 = (popcount u + popcount v) % 2 := by
  rw [popcount, countTrue_congr (g := fun i => u.getLsbD i ^^ v.getLsbD i) (by simp)]
  exact countTrue_xor_mod_two u.getLsbD v.getLsbD w

theorem ofBool_odd_add (m n : Nat) :
    BitVec.ofBool ((m + n) % 2 = 1) = BitVec.ofBool (m % 2 = 1) ^^^ BitVec.ofBool (n % 2 = 1) := by
  rw [BitVec.ofBool_xor_ofBool]
  congr 1
  rcases Nat.mod_two_eq_zero_or_one m with hm | hm <;> rcases Nat.mod_two_eq_zero_or_one n with hn | hn <;>
    simp [Nat.add_mod, hm, hn]

/-- The 11-bit remainder in the parity of R10. -/
def golayRem (d : BitVec 8) : BitVec 11 := (polyRem 0xC75#19 11 8 (d ++ 0#11)).setWidth 11

theorem golayPar_eq (d : BitVec 8) :
    golayPar d = golayRem d ++ BitVec.ofBool ((popcount d + popcount (golayRem d)) % 2 = 1) := rfl

theorem golayRem_xor (d e : BitVec 8) : golayRem (d ^^^ e) = golayRem d ^^^ golayRem e := by
  have hdividend : (d ^^^ e) ++ 0#11 = (d ++ 0#11) ^^^ (e ++ 0#11) := by
    rw [BitVec.xor_append, BitVec.xor_zero]
  rw [golayRem, hdividend, polyRem_xor, BitVec.setWidth_xor, golayRem, golayRem]

/-- R10: both parts of the parity, the remainder and the overall parity bit, are linear. -/
theorem golayPar_xor (d e : BitVec 8) : golayPar (d ^^^ e) = golayPar d ^^^ golayPar e := by
  have hinfo := popcount_xor_mod_two d e
  have hrem := popcount_xor_mod_two (golayRem d) (golayRem e)
  have hparity : (popcount (d ^^^ e) + popcount (golayRem d ^^^ golayRem e)) % 2 =
      (popcount d + popcount (golayRem d) + (popcount e + popcount (golayRem e))) % 2 := by omega
  rw [golayPar_eq, golayRem_xor, hparity, ofBool_odd_add, ← BitVec.xor_append, ← golayPar_eq, ← golayPar_eq]

theorem golayCw_xor (d e : BitVec 8) : golayCw const (d ^^^ e) = golayCw const d ^^^ golayCw const e := by
  rw [golayCw, golayCw, golayCw, BitVec.xor_append]
  exact congrArg _ (golayPar_xor d e)

/-- V-GOL-1: the weights of the 255 codewords other than 0. -/
theorem eight_le_popcount_golayCw : ∀ d : BitVec 8, d ≠ 0 → 8 ≤ popcount (golayCw const d) := by decide +kernel

theorem eight_le_popcount_golayCw_xor {d e : BitVec 8} (h : d ≠ e) :
    8 ≤ popcount (golayCw const d ^^^ golayCw const e) := by
  rw [← golayCw_xor]
  exact eight_le_popcount_golayCw _ fun hzero => h (BitVec.xor_eq_zero_iff.mp hzero)

/-- Settles O23: the lower bound is the smallest weight, and the codeword of 1 is 8 bits from the codeword of 0. -/
theorem golayMinimumDistanceIsEight : Obligations.GolayMinimumDistanceIsEight :=
  ⟨fun _ _ => eight_le_popcount_golayCw_xor, 1, 0, by decide, by decide +kernel⟩

/-- The distances of a slot-type word from two codewords add up to at least 8 (R172: "8 - 4 = 4"). -/
theorem State.eight_le_slotDistance_add (s : State) {d e : BitVec 8} (h : d ≠ e) :
    8 ≤ s.slotDistance d + s.slotDistance e := by
  have htriangle := popcount_xor_triangle (golayCw const d) s.slotTypeWord (golayCw const e)
  rw [BitVec.xor_comm (golayCw const d) s.slotTypeWord] at htriangle
  exact (eight_le_popcount_golayCw_xor h).trans htriangle

/-! ### The decoder finds the nearest codeword (R172) -/

@[simp] theorem stDist_toNat (k : Const) (w : BitVec 20) (d : BitVec 8) :
    stDist k w d.toNat = popcount (w ^^^ golayCw k d) := by
  simp [stDist]

/-- The loop of R172 computes the minimum of the 256 distances. -/
theorem stMinDist_eq_iff {k : Const} {w : BitVec 20} {D : Nat} :
    stMinDist k w = D ↔
      (∃ d : BitVec 8, popcount (w ^^^ golayCw k d) = D) ∧ ∀ d : BitVec 8, D ≤ popcount (w ^^^ golayCw k d) := by
  have hmin : some (stMinDist k w) = (stDist k w 0 :: (List.range 256).map (stDist k w)).min? := by
    rw [List.min?_cons', List.foldl_map, stMinDist]
  have hmem (n : Nat) : n ∈ stDist k w 0 :: (List.range 256).map (stDist k w) ↔
      ∃ d : BitVec 8, popcount (w ^^^ golayCw k d) = n := by
    simp only [← stDist_toNat, List.mem_cons, List.mem_map, List.mem_range]
    constructor
    · rintro (rfl | ⟨d, hd, rfl⟩)
      · exact ⟨0, rfl⟩
      · exact ⟨BitVec.ofNat 8 d, by rw [BitVec.toNat_ofNat, Nat.mod_eq_of_lt hd]⟩
    · rintro ⟨d, rfl⟩
      exact .inr ⟨d.toNat, d.isLt, rfl⟩
  rw [← Option.some_inj, hmin, List.min?_eq_some_iff]
  simp only [hmem, forall_exists_index, forall_apply_eq_imp_iff]

theorem stMinDist_le (k : Const) (w : BitVec 20) (d : BitVec 8) : stMinDist k w ≤ popcount (w ^^^ golayCw k d) :=
  (stMinDist_eq_iff.mp rfl).2 d

theorem exists_popcount_eq_stMinDist (k : Const) (w : BitVec 20) :
    ∃ d : BitVec 8, popcount (w ^^^ golayCw k d) = stMinDist k w :=
  (stMinDist_eq_iff.mp rfl).1

/-- The set of the nearest information words has one element where one codeword is nearer than all others. -/
theorem stNearest_eq_singleton {k : Const} {w : BitVec 20} {d : BitVec 8}
    (h : ∀ e : BitVec 8, e ≠ d → popcount (w ^^^ golayCw k d) < popcount (w ^^^ golayCw k e)) :
    stNearest k w (popcount (w ^^^ golayCw k d)) = [d.toNat] := by
  have hpred : ∀ n ∈ List.range 256,
      decide (stDist k w n = popcount (w ^^^ golayCw k d)) = decide (n = d.toNat) := by
    intro n hn
    refine decide_eq_decide.mpr ⟨fun heq => ?_, fun heq => heq ▸ stDist_toNat k w d⟩
    by_contra hne
    refine (h (BitVec.ofNat 8 n) fun hd => hne ?_).ne' heq
    rw [← hd, BitVec.toNat_ofNat, Nat.mod_eq_of_lt (List.mem_range.mp hn)]
  rw [stNearest, List.filter_congr hpred, List.filter_eq,
    List.count_eq_one_of_mem List.nodup_range (List.mem_range.mpr d.isLt), List.replicate_one]

theorem stDecode_eq_ok {k : Const} {w : BitVec 20} {d : BitVec 8}
    (hnear : popcount (w ^^^ golayCw k d) ≤ k.stMaxErr)
    (h : ∀ e : BitVec 8, e ≠ d → popcount (w ^^^ golayCw k d) < popcount (w ^^^ golayCw k e)) :
    stDecode k w = .ok d (popcount (w ^^^ golayCw k d)) := by
  have hmin : stMinDist k w = popcount (w ^^^ golayCw k d) :=
    stMinDist_eq_iff.mpr ⟨⟨d, rfl⟩, fun e => (eq_or_ne e d).elim (fun heq => heq ▸ le_rfl) fun hne => (h e hne).le⟩
  rw [stDecode, hmin, stNearest_eq_singleton h]
  simp [hnear]

theorem stDecode_eq_fail {k : Const} {w : BitVec 20} (h : k.stMaxErr < stMinDist k w) :
    stDecode k w = .fail (stMinDist k w) := by
  unfold stDecode
  split
  · exact if_neg (Nat.not_le_of_lt h)
  · rfl

/-! ### The next state of SLOTTYPE with the default constants (R171) -/

/-- A word within 3 bits of a codeword is nearer to it than to every other (R172: 8 - 3 = 5 > 3). -/
theorem State.stDecode_of_slotDistance_le {s : State} {d : BitVec 8} (h : s.slotDistance d ≤ 3) :
    stDecode const s.slotTypeWord = .ok d (s.slotDistance d) :=
  stDecode_eq_ok h fun e hne => by
    have hsum := s.eight_le_slotDistance_add hne
    change s.slotDistance d < s.slotDistance e
    omega

theorem exec_slottype_of_stDecode {s : State} {x : StResult} (h : stDecode const s.slotTypeWord = x) :
    exec .slottype s = .next (slottypeResult s x) := by
  rw [exec_slottype, slottype, h]

/-- R170: burst bit 98 is the word's most significant bit. -/
theorem State.getLsbD_slotTypeWord_left (s : State) {j : Nat} (hj : j < 10) :
    s.slotTypeWord.getLsbD (19 - j) = s.burstBit (98 + j) := by
  rw [State.slotTypeWord, BitVec.getLsbD_append, if_neg (by omega), getLsbD_seqInt,
    decide_eq_true (show 19 - j - 10 < 10 by omega), Bool.true_and, show 98 + (10 - 1 - (19 - j - 10)) = 98 + j by omega]

/-- R170: burst bit 165 is the word's least significant bit. -/
theorem State.getLsbD_slotTypeWord_right (s : State) {j : Nat} (hj : j < 10) :
    s.slotTypeWord.getLsbD (9 - j) = s.burstBit (156 + j) := by
  rw [State.slotTypeWord, BitVec.getLsbD_append, if_pos (by omega), getLsbD_seqInt,
    decide_eq_true (show 9 - j < 10 by omega), Bool.true_and, show 156 + (10 - 1 - (9 - j)) = 156 + j by omega]

/-- Settles O24: the word decodes to `d`, and the filter does not reject it. -/
theorem slottypeAcceptsWithinThreeBits : Obligations.SlottypeAcceptsWithinThreeBits := by
  refine ⟨fun s => ⟨fun _ => s.getLsbD_slotTypeWord_left, fun _ => s.getLsbD_slotTypeWord_right⟩,
    fun s d hnear hfilter => ?_⟩
  have haccept : ¬(s.ccfilt.en = true ∧ d.extractLsb' 4 4 ≠ s.ccfilt.ecc) := by
    rintro ⟨hen, hne⟩
    exact hfilter.elim (by simp [hen]) hne
  rw [exec_slottype_of_stDecode (s.stDecode_of_slotDistance_le hnear), slottypeResult, if_neg haccept]
  rfl

/-- Settles O25: the word decodes to `d`, and the filter rejects it. -/
theorem slottypeFilterRejectsOtherColourCodes : Obligations.SlottypeFilterRejectsOtherColourCodes := by
  intro s d hnear hen hne
  rw [exec_slottype_of_stDecode (s.stDecode_of_slotDistance_le hnear), slottypeResult, if_pos ⟨hen, hne⟩]
  rfl

/-- Settles O26: the smallest distance is above 3, so the decoder fails with it. -/
theorem slottypeRejectsFarWords : Obligations.SlottypeRejectsFarWords := by
  intro s hfar
  obtain ⟨d, hd⟩ := exists_popcount_eq_stMinDist const s.slotTypeWord
  have hmin : const.stMaxErr < stMinDist const s.slotTypeWord := hd ▸ hfar d
  exact ⟨_, stMinDist_le const s.slotTypeWord, ⟨d, hd⟩, exec_slottype_of_stDecode (stDecode_eq_fail hmin)⟩

/-- Settles O27: every other codeword is at least 8 - 4 = 4 bits away, so the word is far and 4 is its smallest distance. -/
theorem slottypeDetectsFourErrors : Obligations.SlottypeDetectsFourErrors := by
  intro s d hfour
  have hfar (e : BitVec 8) : 4 ≤ s.slotDistance e := by
    by_cases hne : d = e
    · exact hne ▸ hfour.ge
    · have hsum := s.eight_le_slotDistance_add hne
      omega
  obtain ⟨D, hmin, ⟨e, rfl⟩, hexec⟩ := slottypeRejectsFarWords s hfar
  rwa [show s.slotDistance e = 4 from le_antisymm (hfour ▸ hmin d) (hfar e)] at hexec

end Sys2Proof.Machine
end

section
/-! SUPPORT. BPTC (43_bptc R190 to R195): the interleave, what one correction of a line does, the linearity of the decoder, and
the course of the decoder on the error patterns of R194's corner cases. -/

namespace Sys2Proof.Machine

/-! ### The interleave (R190, R191) -/

theorem State.getLsbD_matrix (k : Const) (s : State) {a : Nat} (h : a < 196) :
    (s.matrix k).getLsbD a = s.bptcRaw (a * k.interleave % 196) := by
  rw [State.matrix, deinterleave, getLsbD_packBits, decide_eq_true h, Bool.true_and]

/-- Settles O28: 13 is the inverse of 181 modulo 196. -/
theorem bptcMatrixIsTheInterleavedBlock : Obligations.BptcMatrixIsTheInterleavedBlock :=
  ⟨fun s _ ha => s.getLsbD_matrix const ha,
    fun j _ => ⟨j * 13 % 196, by omega, by omega, fun b _ _ => by omega⟩⟩

/-! ### One correction of a line (R194) -/

/-- A line's correction inverts the bit its syndrome names, or does nothing. -/
theorem correctLine_cases (h : HammingCode) (idx : Nat → Nat) (x : Correction) :
    (∃ p, h.positions.lookup (lineSyndrome h idx x.m) = some p ∧
        correctLine h idx x = ⟨x.m ^^^ bitAt 196 (idx p), x.flips + 1, true⟩) ∨
      (h.positions.lookup (lineSyndrome h idx x.m) = none ∧ correctLine h idx x = x) := by
  unfold correctLine
  cases hpos : h.positions.lookup (lineSyndrome h idx x.m) with
  | some p => exact .inl ⟨p, rfl, rfl⟩
  | none => exact .inr ⟨rfl, rfl⟩

theorem matrixOk_iff {k : Const} {m : Matrix} :
    matrixOk k m = true ↔
      (∀ c < 15, lineSyndrome k.h13 (colIdx c) m = 0) ∧ ∀ r < 9, lineSyndrome k.h15 (rowIdx r) m = 0 := by
  simp [matrixOk]

/-! ### The decoder is linear (R193) -/

/-- A line of `M` that checks adds nothing to the syndrome. -/
theorem lineSyndrome_xor_of_checks {h : HammingCode} {idx : Nat → Nat} {M : Matrix} (hM : lineSyndrome h idx M = 0)
    (m : Matrix) : lineSyndrome h idx (m ^^^ M) = lineSyndrome h idx m := by
  rw [lineSyndrome_xor, hM]
  exact BitVec.xor_zero

/-- The decoder between two corrections, with the matrix `M` added to its own. -/
def Correction.addMatrix (x : Correction) (M : Matrix) : Correction := { x with m := x.m ^^^ M }

/-- Where the line of `M` checks, the same bit is inverted. -/
theorem correctLine_addMatrix {h : HammingCode} {idx : Nat → Nat} {M : Matrix} (hM : lineSyndrome h idx M = 0)
    (x : Correction) : correctLine h idx (x.addMatrix M) = (correctLine h idx x).addMatrix M := by
  have hsyn : lineSyndrome h idx (x.addMatrix M).m = lineSyndrome h idx x.m := lineSyndrome_xor_of_checks hM x.m
  rcases correctLine_cases h idx x with ⟨p, hp, heq⟩ | ⟨hnone, heq⟩ <;> rw [heq, correctLine, hsyn]
  · simp only [hp, Correction.addMatrix, Correction.mk.injEq, and_true]
    ac_rfl
  · simp only [hnone]

theorem foldl_correctLine_addMatrix {h : HammingCode} {idx : Nat → Nat → Nat} {lines : List Nat} {M : Matrix}
    (hM : ∀ c ∈ lines, lineSyndrome h (idx c) M = 0) (x : Correction) :
    lines.foldl (fun x c => correctLine h (idx c) x) (x.addMatrix M) =
      (lines.foldl (fun x c => correctLine h (idx c) x) x).addMatrix M := by
  induction lines generalizing x with
  | nil => rfl
  | cons c lines ih =>
    obtain ⟨hc, hlines⟩ := List.forall_mem_cons.mp hM
    rw [List.foldl_cons, List.foldl_cons, correctLine_addMatrix hc, ih hlines]

theorem correctionPass_addMatrix {k : Const} {M : Matrix} (hM : matrixOk k M = true) (x : Correction) :
    correctionPass k (x.addMatrix M) = (correctionPass k x).addMatrix M := by
  obtain ⟨hcolumns, hrows⟩ := matrixOk_iff.mp hM
  have hcolumns' : correctColumns k ({ x with fixed := false }.addMatrix M) =
      (correctColumns k { x with fixed := false }).addMatrix M :=
    foldl_correctLine_addMatrix (fun c hc => hcolumns c (List.mem_range.mp hc)) _
  exact (congrArg (correctRows k) hcolumns').trans
    (foldl_correctLine_addMatrix (fun r hr => hrows r (List.mem_range.mp hr)) _)

theorem correctionLoop_addMatrix {k : Const} {M : Matrix} (hM : matrixOk k M = true) (fuel passes : Nat)
    (x : Correction) :
    correctionLoop k fuel passes (x.addMatrix M) =
      ((correctionLoop k fuel passes x).1.addMatrix M, (correctionLoop k fuel passes x).2) := by
  induction fuel generalizing passes x with
  | zero => rfl
  | succ fuel ih =>
    rw [correctionLoop_succ, correctionLoop_succ, correctionPass_addMatrix hM, ih]
    cases hfixed : (correctionPass k x).fixed <;> simp [Correction.addMatrix, hfixed]

theorem matrixOk_xor {k : Const} {M : Matrix} (hM : matrixOk k M = true) (m : Matrix) :
    matrixOk k (m ^^^ M) = matrixOk k m := by
  obtain ⟨hcolumns, hrows⟩ := matrixOk_iff.mp hM
  rw [Bool.eq_iff_iff, matrixOk_iff, matrixOk_iff]
  simp +contextual only [lineSyndrome_xor_of_checks, hcolumns, hrows]

/-- Settles O32: every line of `M` checks, so no syndrome, and no inversion, depends on it. -/
theorem bptcDecodingDependsOnlyOnTheErrors : Obligations.BptcDecodingDependsOnlyOnTheErrors :=
  fun _ E hM => correctionLoop_addMatrix hM 5 0 ⟨E, 0, false⟩

/-! ### Single bits and the count of the set bits (R16) -/

theorem getLsbD_bitAt (w i j : Nat) : (bitAt w i).getLsbD j = (decide (i < w) && decide (i = j)) :=
  BitVec.getLsbD_twoPow i j

theorem countTrue_eq_and_add_and_not (f g : Nat → Bool) (n : Nat) :
    countTrue f n = countTrue (fun i => f i && g i) n + countTrue (fun i => f i && !g i) n := by
  induction n with
  | zero => rfl
  | succ n ih => simp only [countTrue, ih]; cases f n <;> cases g n <;> simp <;> omega

/-- The set bits of `u` are those in `v` and those outside. -/
theorem popcount_eq_and_add_and_not {w : Nat} (u v : BitVec w) :
    popcount u = popcount (u &&& v) + popcount (u &&& ~~~v) := by
  rw [popcount, countTrue_eq_and_add_and_not _ v.getLsbD, popcount, popcount]
  congr 1 <;> refine countTrue_congr fun i hi => ?_ <;> simp [hi]

theorem countTrue_decide_eq (i n : Nat) : countTrue (fun j => decide (i = j)) n = if i < n then 1 else 0 := by
  induction n with
  | zero => rfl
  | succ n ih =>
    rw [countTrue, ih]
    rcases Nat.lt_trichotomy i n with hlt | heq | hgt
    · simp [hlt, hlt.ne, Nat.lt_succ_of_lt hlt]
    · simp [heq]
    · simp [hgt.ne', Nat.not_lt.mpr hgt.le, Nat.not_lt.mpr (Nat.succ_le_of_lt hgt)]

theorem popcount_bitAt (w i : Nat) : popcount (bitAt w i) = if i < w then 1 else 0 := by
  rw [← countTrue_decide_eq, popcount]
  refine countTrue_congr fun j hj => ?_
  rw [getLsbD_bitAt]
  by_cases hij : i = j
  · simp [hij, hj]
  · simp [hij]

/-- Inverting a set bit removes it. -/
theorem popcount_xor_bitAt {w i : Nat} {u : BitVec w} (h : u.getLsbD i = true) :
    popcount (u ^^^ bitAt w i) + 1 = popcount u := by
  have hi : i < w := BitVec.lt_of_getLsbD h
  have hin : u &&& bitAt w i = bitAt w i := by rw [bitAt, BitVec.and_twoPow, if_pos h]
  have hout : u &&& ~~~bitAt w i = u ^^^ bitAt w i := by
    refine BitVec.eq_of_getLsbD_eq fun j hj => ?_
    rw [BitVec.getLsbD_and, BitVec.getLsbD_not, BitVec.getLsbD_xor, getLsbD_bitAt]
    by_cases hij : i = j
    · subst hij; simp [h, hj]
    · simp [hij, hj]
  rw [popcount_eq_and_add_and_not u (bitAt w i), hin, hout, popcount_bitAt, if_pos hi, Nat.add_comm]

/-! ### What every correction keeps -/

/-- What holds of the decoder before a pass, and after the correction of every column and data row, holds after the pass. -/
theorem correctionPass_keeps {k : Const} {P : Correction → Prop} {x : Correction}
    (hcolumn : ∀ x c, P x → P (correctLine k.h13 (colIdx c) x)) (hrow : ∀ x r, P x → P (correctLine k.h15 (rowIdx r) x))
    (h : P { x with fixed := false }) : P (correctionPass k x) :=
  List.foldlRecOn _ _ (List.foldlRecOn _ _ h fun x hx c _ => hcolumn x c hx) fun x hx r _ => hrow x r hx

/-- What every pass keeps holds at the end. -/
theorem correctionLoop_keeps {k : Const} {P : Correction → Prop} (hpass : ∀ x, P x → P (correctionPass k x))
    (fuel passes : Nat) {x : Correction} (h : P x) : P (correctionLoop k fuel passes x).1 := by
  induction fuel generalizing passes x with
  | zero => exact h
  | succ fuel ih =>
    rw [correctionLoop_succ]
    split
    · exact ih _ (hpass x h)
    · exact hpass x h

/-- The matrix of `x` is `m` after at most `x.flips` inversions, none of them at the reserved bit M[0]. -/
def Correction.Follows (m : Matrix) (x : Correction) : Prop :=
  popcount (x.m ^^^ m) ≤ x.flips ∧ x.m.getLsbD 0 = m.getLsbD 0

theorem Correction.Follows.correctLine {m : Matrix} {idx : Nat → Nat} (hidx : ∀ i, idx i ≠ 0) (h : HammingCode)
    {x : Correction} (hx : x.Follows m) : (correctLine h idx x).Follows m := by
  rcases correctLine_cases h idx x with ⟨p, -, heq⟩ | ⟨-, heq⟩ <;> rw [heq]
  · obtain ⟨hcount, hzero⟩ := hx
    refine ⟨?_, by
      rw [BitVec.getLsbD_xor, getLsbD_bitAt, decide_eq_false (hidx p), Bool.and_false, Bool.xor_false, hzero]⟩
    calc popcount (x.m ^^^ bitAt 196 (idx p) ^^^ m)
        = popcount (x.m ^^^ m ^^^ bitAt 196 (idx p)) := by rw [BitVec.xor_assoc, BitVec.xor_comm _ m, BitVec.xor_assoc]
      _ ≤ popcount (x.m ^^^ m) + popcount (bitAt 196 (idx p)) := popcount_xor_le _ _
      _ ≤ x.flips + 1 := Nat.add_le_add hcount (by rw [popcount_bitAt]; split <;> omega)
  · exact hx

theorem colIdx_ne_zero (c a : Nat) : colIdx c a ≠ 0 := by unfold colIdx; omega

theorem rowIdx_ne_zero (r j : Nat) : rowIdx r j ≠ 0 := by unfold rowIdx; omega

theorem bptcDecode_follows (k : Const) (m : Matrix) : (bptcDecode k m).1.Follows m :=
  correctionLoop_keeps
    (fun _ hx => correctionPass_keeps (fun _ c => .correctLine (colIdx_ne_zero c) k.h13)
      (fun _ r => .correctLine (rowIdx_ne_zero r) k.h15) hx)
    _ _ ⟨by rw [BitVec.xor_self, popcount_zero], rfl⟩

/-! ### What BPTC writes (R194, R195) -/

theorem infoPos_eq_infoPositions : ∀ k < 96, infoPos k = infoPositions.getD k 0 := by decide

/-- Settles O29: every inversion counts one flip and none is at M[0]; the two outcomes are those of `bptcResult`. -/
theorem bptcAcceptsOnlyACheckingMatrix : Obligations.BptcAcceptsOnlyACheckingMatrix := by
  intro s x passes hdecode
  obtain ⟨hflips, hmin, hmax⟩ := bptcDecode_bounds (s.matrix const)
  obtain ⟨hcount, hzero⟩ := bptcDecode_follows const (s.matrix const)
  have hexec : exec .bptc s = .next (bptcResult const s x passes) := by rw [exec_bptc, bptc_eq, hdecode]
  rw [hdecode] at hflips hmin hmax hcount hzero
  refine ⟨hmin, hmax, hflips, hcount, hzero, fun hok => ⟨_, hexec, fun k hk => ?_, ?_⟩, fun hfail => hexec.trans ?_⟩
  · have hinfo : (bptcResult const s x passes).info = packInfoBits (matrixInfo x.m) := by
      rw [bptcResult_eq, hok]; rfl
    rw [State.infoBit_of_packInfoBits hinfo hk, matrixInfo, infoPos_eq_infoPositions k hk]
  · rw [bptcResult_eq, hok]; rfl
  · rw [bptcResult_eq, hfail]; rfl

/-! ### The codes correct one error (R11) -/

/-- The syndrome of one error, at `p`. -/
def unitSyndrome (h : HammingCode) (p : Nat) : BitVec 4 := syndrome h fun i => decide (i = p)

/-- A code of length `n` that corrects one error: it reads no bit from `n` on, and the syndrome of an error at `p` names `p`. -/
structure CorrectsOneError (h : HammingCode) (n : Nat) : Prop where
  reads_lt : ∀ l ∈ h.checks, ∀ i ∈ l, i < n
  lookup_zero : h.positions.lookup 0 = none
  lookup_unit : ∀ p < n, h.positions.lookup (unitSyndrome h p) = some p

theorem h13_correctsOneError : CorrectsOneError const.h13 13 := ⟨by decide, by decide, by decide⟩

theorem h15_correctsOneError : CorrectsOneError const.h15 15 := ⟨by decide, by decide, by decide⟩

theorem parityOver_congr {l : List Nat} {d e : Nat → Bool} (h : ∀ i ∈ l, d i = e i) : parityOver l d = parityOver l e :=
  List.foldr_ext _ _ _ fun i hi p => by rw [h i hi]

/-- The syndrome of a line is that of any word with the same `n` bits. -/
theorem CorrectsOneError.lineSyndrome_eq {h : HammingCode} {n : Nat} (hcode : CorrectsOneError h n) {idx : Nat → Nat}
    {m : Matrix} {d : Nat → Bool} (hbits : ∀ i < n, m.getLsbD (idx i) = d i) : lineSyndrome h idx m = syndrome h d := by
  refine packBits_congr fun j _ => parityOver_congr fun i hi => hbits i ?_
  by_cases hj : j < h.checks.length
  · rw [List.getD_eq_getElem _ _ hj] at hi
    exact hcode.reads_lt _ (List.getElem_mem hj) i hi
  · rw [List.getD_eq_default _ _ (Nat.le_of_not_lt hj)] at hi
    cases hi

theorem syndrome_false (h : HammingCode) : (syndrome h fun _ => false) = 0 := by
  have hself := syndrome_xor h (fun _ => false) fun _ => false
  rwa [Bool.xor_self, BitVec.xor_self] at hself

theorem CorrectsOneError.lineSyndrome_eq_zero {h : HammingCode} {n : Nat} (hcode : CorrectsOneError h n)
    {idx : Nat → Nat} {m : Matrix} (hbits : ∀ i < n, m.getLsbD (idx i) = false) : lineSyndrome h idx m = 0 :=
  (hcode.lineSyndrome_eq hbits).trans (syndrome_false h)

theorem CorrectsOneError.correctLine_of_checks {h : HammingCode} {n : Nat} (hcode : CorrectsOneError h n)
    {idx : Nat → Nat} {x : Correction} (hx : lineSyndrome h idx x.m = 0) : correctLine h idx x = x := by
  rw [correctLine, hx, hcode.lookup_zero]

/-- A line with one error, at `p`, is corrected there. -/
theorem CorrectsOneError.correctLine_of_single {h : HammingCode} {n : Nat} (hcode : CorrectsOneError h n)
    {idx : Nat → Nat} {x : Correction} {p : Nat} (hp : p < n)
    (hx : lineSyndrome h idx x.m = unitSyndrome h p) :
    correctLine h idx x = ⟨x.m ^^^ bitAt 196 (idx p), x.flips + 1, true⟩ := by
  rw [correctLine, hx, hcode.lookup_unit p hp]

theorem CorrectsOneError.foldl_correctLine_of_checks {h : HammingCode} {n : Nat} (hcode : CorrectsOneError h n)
    {idx : Nat → Nat → Nat} {lines : List Nat} {x : Correction} (hx : ∀ c ∈ lines, lineSyndrome h (idx c) x.m = 0) :
    lines.foldl (fun x c => correctLine h (idx c) x) x = x := by
  induction lines with
  | nil => rfl
  | cons c lines ih =>
    obtain ⟨hc, hlines⟩ := List.forall_mem_cons.mp hx
    rw [List.foldl_cons, hcode.correctLine_of_checks hc, ih hlines]

/-- Where the other lines check before and after line `c` is corrected, only line `c` is corrected. -/
theorem CorrectsOneError.foldl_correctLine_of_others_check {h : HammingCode} {n : Nat} (hcode : CorrectsOneError h n)
    {idx : Nat → Nat → Nat} {lines : List Nat} (hnodup : lines.Nodup) {c : Nat} (hc : c ∈ lines) {x : Correction}
    (hbefore : ∀ d ∈ lines, d ≠ c → lineSyndrome h (idx d) x.m = 0)
    (hafter : ∀ d ∈ lines, d ≠ c → lineSyndrome h (idx d) (correctLine h (idx c) x).m = 0) :
    lines.foldl (fun x c => correctLine h (idx c) x) x = correctLine h (idx c) x := by
  induction lines with
  | nil => cases hc
  | cons d lines ih =>
    obtain ⟨hd, hnodup⟩ := List.nodup_cons.mp hnodup
    obtain ⟨hbefore_d, hbefore⟩ := List.forall_mem_cons.mp hbefore
    rw [List.foldl_cons]
    rcases List.mem_cons.mp hc with rfl | hc
    · exact hcode.foldl_correctLine_of_checks fun e he => hafter e (List.mem_cons_of_mem c he) fun hec => hd (hec ▸ he)
    · rw [hcode.correctLine_of_checks (hbefore_d fun hdc => hd (hdc ▸ hc)),
        ih hnodup hc hbefore (List.forall_mem_cons.mp hafter).2]

/-- A pass over a checking matrix changes nothing. -/
theorem correctionPass_of_matrixOk {x : Correction} (hx : matrixOk const x.m = true) :
    correctionPass const x = { x with fixed := false } := by
  obtain ⟨hcolumns, hrows⟩ := matrixOk_iff.mp hx
  have hcolumns' : correctColumns const { x with fixed := false } = { x with fixed := false } :=
    h13_correctsOneError.foldl_correctLine_of_checks fun c hc => hcolumns c (List.mem_range.mp hc)
  rw [correctionPass, hcolumns']
  exact h15_correctsOneError.foldl_correctLine_of_checks fun r hr => hrows r (List.mem_range.mp hr)

/-! ### Two errors of one column in the parity rows (R194) -/

/-- Two errors in column `c`, at `a` and `b`. -/
def columnPair (c a b : Nat) : Matrix := bitAt 196 (colIdx c a) ^^^ bitAt 196 (colIdx c b)

theorem colIdx_eq_rowIdx (c a : Nat) : colIdx c a = rowIdx a c := by unfold colIdx rowIdx; omega

theorem getLsbD_bitAt_colIdx {c a : Nat} (hc : c < 15) (ha : a < 13) (i : Nat) :
    (bitAt 196 (colIdx c a)).getLsbD i = decide (colIdx c a = i) := by
  have hlt : colIdx c a < 196 := by unfold colIdx; omega
  rw [getLsbD_bitAt, decide_eq_true hlt, Bool.true_and]

theorem lineSyndrome_column_bitAt {c d a : Nat} (hc : c < 15) (hd : d < 15) (ha : a < 13) :
    lineSyndrome const.h13 (colIdx d) (bitAt 196 (colIdx c a)) =
      if d = c then unitSyndrome const.h13 a else 0 := by
  split
  case isTrue hdc =>
    subst hdc
    refine h13_correctsOneError.lineSyndrome_eq fun i _ => ?_
    rw [getLsbD_bitAt_colIdx hc ha, decide_eq_decide]
    unfold colIdx; omega
  case isFalse hdc =>
    refine h13_correctsOneError.lineSyndrome_eq_zero fun i _ => ?_
    rw [getLsbD_bitAt_colIdx hc ha, decide_eq_false_iff_not]
    unfold colIdx; omega

theorem lineSyndrome_row_bitAt {c r a : Nat} (hc : c < 15) (ha : a < 13) :
    lineSyndrome const.h15 (rowIdx r) (bitAt 196 (colIdx c a)) =
      if r = a then unitSyndrome const.h15 c else 0 := by
  split
  case isTrue hra =>
    subst hra
    refine h15_correctsOneError.lineSyndrome_eq fun i _ => ?_
    rw [getLsbD_bitAt_colIdx hc ha, decide_eq_decide]
    unfold colIdx rowIdx; omega
  case isFalse hra =>
    refine h15_correctsOneError.lineSyndrome_eq_zero fun i _ => ?_
    rw [getLsbD_bitAt_colIdx hc ha, decide_eq_false_iff_not]
    unfold colIdx rowIdx; omega

/-- Two errors in the parity part of a column are never unseen, and the column code names a data row for them, or nothing. -/
theorem h13_parityPair : ∀ a < 13, ∀ b < 13, 9 ≤ a → a < b →
    unitSyndrome const.h13 a ^^^ unitSyndrome const.h13 b ≠ 0 ∧
      ∀ p ∈ const.h13.positions.lookup (unitSyndrome const.h13 a ^^^ unitSyndrome const.h13 b), p < 9 := by
  decide

section
variable {c a b : Nat} (hc : c < 15) (hab : a < b) (hb : b ≤ 12)
include hc hab hb

theorem lineSyndrome_column_columnPair :
    lineSyndrome const.h13 (colIdx c) (columnPair c a b) =
      unitSyndrome const.h13 a ^^^ unitSyndrome const.h13 b := by
  rw [columnPair, lineSyndrome_xor, lineSyndrome_column_bitAt hc hc (by omega),
    lineSyndrome_column_bitAt hc hc (by omega), if_pos rfl, if_pos rfl]

theorem lineSyndrome_otherColumn_columnPair {d : Nat} (hd : d < 15) (hdc : d ≠ c) :
    lineSyndrome const.h13 (colIdx d) (columnPair c a b) = 0 := by
  rw [columnPair, lineSyndrome_xor, lineSyndrome_column_bitAt hc hd (by omega),
    lineSyndrome_column_bitAt hc hd (by omega), if_neg hdc, if_neg hdc]
  rfl

variable (ha : 9 ≤ a)
include ha

theorem lineSyndrome_row_columnPair {r : Nat} (hr : r < 9) :
    lineSyndrome const.h15 (rowIdx r) (columnPair c a b) = 0 := by
  rw [columnPair, lineSyndrome_xor, lineSyndrome_row_bitAt hc (by omega), lineSyndrome_row_bitAt hc (by omega),
    if_neg (by omega), if_neg (by omega)]
  rfl

/-- The columns' correction inverts a bit of column `c` in a data row, or nothing. -/
theorem correctColumns_columnPair {x : Correction} (hx : x.m = columnPair c a b) :
    (correctColumns const x).m = columnPair c a b ∨
      ∃ p < 9, (correctColumns const x).m = columnPair c a b ^^^ bitAt 196 (colIdx c p) := by
  have hline : (correctLine const.h13 (colIdx c) x).m = columnPair c a b ∨
      ∃ p < 9, (correctLine const.h13 (colIdx c) x).m = columnPair c a b ^^^ bitAt 196 (colIdx c p) := by
    rcases correctLine_cases const.h13 (colIdx c) x with ⟨p, hp, heq⟩ | ⟨-, heq⟩ <;> rw [heq, hx]
    · rw [hx, lineSyndrome_column_columnPair hc hab hb] at hp
      exact .inr ⟨p, (h13_parityPair a (by omega) b (by omega) ha hab).2 p hp, rfl⟩
    · exact .inl rfl
  have hothers {d : Nat} (hd : d < 15) (hdc : d ≠ c) := lineSyndrome_otherColumn_columnPair hc hab hb hd hdc
  have honly : correctColumns const x = correctLine const.h13 (colIdx c) x := by
    refine h13_correctsOneError.foldl_correctLine_of_others_check List.nodup_range (List.mem_range.mpr hc)
      (fun d hd hdc => hx ▸ hothers (List.mem_range.mp hd) hdc) fun d hd hdc => ?_
    have hd := List.mem_range.mp hd
    rcases hline with heq | ⟨p, hp, heq⟩ <;> rw [heq]
    · exact hothers hd hdc
    · rw [lineSyndrome_xor, hothers hd hdc, lineSyndrome_column_bitAt hc hd (by omega), if_neg hdc]
      rfl
  rwa [honly]

/-- The row code inverts back what the column code inverted, so a pass keeps the matrix. -/
theorem correctionPass_columnPair {x : Correction} (hx : x.m = columnPair c a b) :
    (correctionPass const x).m = columnPair c a b := by
  have hrows {r : Nat} (hr : r < 9) := lineSyndrome_row_columnPair hc hab hb ha hr
  rw [correctionPass]
  rcases correctColumns_columnPair hc hab hb ha (x := { x with fixed := false }) hx with hm | ⟨p, hp, hm⟩
  · have hkept : correctRows const (correctColumns const { x with fixed := false }) =
        correctColumns const { x with fixed := false } :=
      h15_correctsOneError.foldl_correctLine_of_checks fun r hr => hm ▸ hrows (List.mem_range.mp hr)
    rw [hkept, hm]
  · generalize correctColumns const { x with fixed := false } = y at hm ⊢
    have hsyn {r : Nat} (hr : r < 9) : lineSyndrome const.h15 (rowIdx r) y.m =
        if r = p then unitSyndrome const.h15 c else 0 := by
      rw [hm, lineSyndrome_xor, hrows hr, lineSyndrome_row_bitAt hc (by omega)]
      exact BitVec.zero_xor
    have hback : (correctLine const.h15 (rowIdx p) y).m = columnPair c a b := by
      rw [h15_correctsOneError.correctLine_of_single hc ((hsyn hp).trans (if_pos rfl)), hm, colIdx_eq_rowIdx,
        BitVec.xor_assoc, BitVec.xor_self, BitVec.xor_zero]
    have honly : correctRows const y = correctLine const.h15 (rowIdx p) y :=
      h15_correctsOneError.foldl_correctLine_of_others_check List.nodup_range (List.mem_range.mpr hp)
        (fun r hr hrp => (hsyn (List.mem_range.mp hr)).trans (if_neg hrp))
        fun r hr _ => hback ▸ hrows (List.mem_range.mp hr)
    rw [honly, hback]

theorem matrixOk_bptcDecode_columnPair : matrixOk const (bptcDecode const (columnPair c a b)).1.m = false := by
  have hkept : (bptcDecode const (columnPair c a b)).1.m = columnPair c a b :=
    correctionLoop_keeps (P := fun x => x.m = columnPair c a b)
      (fun _ => correctionPass_columnPair hc hab hb ha) _ _ rfl
  rw [hkept, Bool.eq_false_iff]
  intro hok
  have hseen := (h13_parityPair a (by omega) b (by omega) ha hab).1
  rw [← lineSyndrome_column_columnPair hc hab hb] at hseen
  exact hseen ((matrixOk_iff.mp hok).1 c hc)

end

/-- Settles O31: every pass keeps the two errors, whatever the matrix they are added to. -/
theorem bptcRejectsTwoParityRowErrors : Obligations.BptcRejectsTwoParityRowErrors := by
  intro s M c a b hM hc ha hab hb hs
  have hmatrix : s.matrix const = columnPair c a b ^^^ M := by
    rw [hs, BitVec.xor_assoc, BitVec.xor_comm, columnPair]
  have hdecode := bptcDecodingDependsOnlyOnTheErrors M (columnPair c a b) hM
  rw [← hmatrix] at hdecode
  obtain ⟨-, -, -, -, -, -, hfail⟩ := bptcAcceptsOnlyACheckingMatrix s _ _ hdecode
  exact ⟨_, hfail ((matrixOk_xor hM _).trans (matrixOk_bptcDecode_columnPair hc hab hb ha)), rfl, rfl, rfl, rfl⟩

/-! ### At most one error in every column (R194) -/

theorem AtMostOneInColumn.cases {E : Matrix} {c : Nat} (h : AtMostOneInColumn E c) :
    (∀ i < 13, E.getLsbD (colIdx c i) = false) ∨ ∃ p < 13, ∀ i < 13, E.getLsbD (colIdx c i) = decide (i = p) := by
  have hmem {i : Nat} (hi : i < 13) :
      E.getLsbD (colIdx c i) = true ↔ colIdx c i ∈ (columnBits c).filter fun i => E.getLsbD i :=
    ⟨fun hbit => List.mem_filter.mpr ⟨List.mem_map_of_mem (List.mem_range.mpr hi), hbit⟩,
      fun hin => (List.mem_filter.mp hin).2⟩
  match hset : (columnBits c).filter fun i => E.getLsbD i with
  | [] =>
    refine .inl fun i hi => ?_
    rw [← Bool.not_eq_true, hmem hi, hset]
    exact List.not_mem_nil
  | [q] =>
    obtain ⟨p, hp, rfl⟩ := List.mem_map.mp (List.mem_of_mem_filter (hset ▸ List.mem_singleton_self q))
    refine .inr ⟨p, List.mem_range.mp hp, fun i hi => ?_⟩
    rw [Bool.eq_iff_iff, decide_eq_true_iff, hmem hi, hset, List.mem_singleton]
    unfold colIdx; omega
  | q :: q' :: rest => rw [AtMostOneInColumn, hset] at h; simp at h

/-- After the correction of the first `n` columns of a matrix `E` with at most one error in every column: their errors are
removed, and counted. -/
structure ColumnsCleared (E : Matrix) (n : Nat) (x : Correction) : Prop where
  bits : ∀ i < 196, x.m.getLsbD i = (E.getLsbD i && !decide (i ≠ 0 ∧ (i - 1) % 15 < n))
  count : popcount x.m + x.flips = popcount E
  fixed : x.fixed = decide (0 < x.flips)

theorem ColumnsCleared.correctLine {E : Matrix} {n : Nat} {x : Correction} (hx : ColumnsCleared E n x) (hn : n < 15)
    (hE : AtMostOneInColumn E n) : ColumnsCleared E (n + 1) (correctLine const.h13 (colIdx n) x) := by
  obtain ⟨hbits, hcount, hfixed⟩ := hx
  have hcolumn (i : Nat) (hi : i < 13) : x.m.getLsbD (colIdx n i) = E.getLsbD (colIdx n i) := by
    rw [hbits _ (by unfold colIdx; omega), decide_eq_false (by unfold colIdx; omega), Bool.not_false, Bool.and_true]
  have hplace {i : Nat} (hi : i < 196) (h0 : i ≠ 0) (hmod : (i - 1) % 15 = n) : ∃ j < 13, i = colIdx n j :=
    ⟨(i - 1) / 15, by omega, by unfold colIdx; omega⟩
  have hoff {i : Nat} (hon : ¬(i ≠ 0 ∧ (i - 1) % 15 = n)) :
      decide (i ≠ 0 ∧ (i - 1) % 15 < n) = decide (i ≠ 0 ∧ (i - 1) % 15 < n + 1) := decide_eq_decide.mpr (by omega)
  rcases hE.cases with hnone | ⟨p, hp, hone⟩
  · rw [h13_correctsOneError.correctLine_of_checks
      (h13_correctsOneError.lineSyndrome_eq_zero fun i hi => (hcolumn i hi).trans (hnone i hi))]
    refine ⟨fun i hi => ?_, hcount, hfixed⟩
    rw [hbits i hi]
    by_cases hon : i ≠ 0 ∧ (i - 1) % 15 = n
    · obtain ⟨j, hj, rfl⟩ := hplace hi hon.1 hon.2
      rw [hnone j hj, Bool.false_and, Bool.false_and]
    · rw [hoff hon]
  · rw [h13_correctsOneError.correctLine_of_single hp
      (h13_correctsOneError.lineSyndrome_eq fun i hi => (hcolumn i hi).trans (hone i hi))]
    refine ⟨fun i hi => ?_, ?_, by simp⟩
    · rw [BitVec.getLsbD_xor, getLsbD_bitAt_colIdx hn hp]
      by_cases hon : i ≠ 0 ∧ (i - 1) % 15 = n
      · obtain ⟨j, hj, rfl⟩ := hplace hi hon.1 hon.2
        rw [hcolumn j hj, hone j hj, decide_eq_true (p := _ ∧ _) (by omega), Bool.not_true, Bool.and_false,
          bne_eq_false_iff_eq, decide_eq_decide]
        unfold colIdx; omega
      · rw [hbits i hi, decide_eq_false (p := colIdx n p = i) (by unfold colIdx; omega), Bool.xor_false, hoff hon]
    · have hset : x.m.getLsbD (colIdx n p) = true := by rw [hcolumn p hp, hone p hp, decide_eq_true rfl]
      rw [← hcount, ← popcount_xor_bitAt hset]
      ring

theorem columnsCleared_foldl {E : Matrix} (hE : ∀ c < 15, AtMostOneInColumn E c) {n : Nat} (hn : n ≤ 15) :
    ColumnsCleared E n ((List.range n).foldl (fun x c => correctLine const.h13 (colIdx c) x) ⟨E, 0, false⟩) := by
  induction n with
  | zero => exact ⟨fun i _ => by simp, Nat.add_zero _, rfl⟩
  | succ n ih =>
    rw [List.range_succ, List.foldl_append]
    exact (ih (by omega)).correctLine hn (hE n hn)

/-- The columns' correction leaves M[0] and counts the errors in M[1..195]. -/
theorem correctColumns_of_atMostOne {E : Matrix} (hE : ∀ c < 15, AtMostOneInColumn E c) {n : Nat}
    (hn : popcount (E &&& ~~~1#196) = n) : correctColumns const ⟨E, 0, false⟩ = ⟨E &&& 1#196, n, decide (0 < n)⟩ := by
  have hcleared : ColumnsCleared E 15 (correctColumns const ⟨E, 0, false⟩) := columnsCleared_foldl hE le_rfl
  generalize correctColumns const ⟨E, 0, false⟩ = x at hcleared ⊢
  have hm : x.m = E &&& 1#196 := BitVec.eq_of_getLsbD_eq fun i hi => by
    rw [hcleared.bits i hi, BitVec.getLsbD_and, BitVec.getLsbD_one]
    congr 1
    by_cases hzero : i = 0 <;> simp [hzero, Nat.mod_lt]
  have hflips : x.flips = n := by
    have hsplit := popcount_eq_and_add_and_not E 1#196
    rw [hn, ← hcleared.count, hm] at hsplit
    exact Nat.add_left_cancel hsplit
  rw [← hm, ← hflips, ← hcleared.fixed]

/-- A matrix with no bit but M[0] checks. -/
theorem matrixOk_and_one (E : Matrix) : matrixOk const (E &&& 1#196) = true := by
  have hbit {i : Nat} (hi : i ≠ 0) : (E &&& 1#196).getLsbD i = false := by
    rw [BitVec.getLsbD_and, BitVec.getLsbD_one, decide_eq_false hi, Bool.and_false, Bool.and_false]
  exact matrixOk_iff.mpr
    ⟨fun c _ => h13_correctsOneError.lineSyndrome_eq_zero fun i _ => hbit (colIdx_ne_zero c i),
      fun r _ => h15_correctsOneError.lineSyndrome_eq_zero fun i _ => hbit (rowIdx_ne_zero r i)⟩

/-- The first pass removes every error, and where there was one a second pass finds nothing. -/
theorem bptcDecode_of_atMostOne {E : Matrix} (hE : ∀ c < 15, AtMostOneInColumn E c) {n : Nat}
    (hn : popcount (E &&& ~~~1#196) = n) :
    bptcDecode const E = (⟨E &&& 1#196, n, false⟩, if n = 0 then 1 else 2) := by
  have hpass : correctionPass const ⟨E, 0, false⟩ = ⟨E &&& 1#196, n, decide (0 < n)⟩ := by
    rw [correctionPass, correctColumns_of_atMostOne hE hn]
    exact h15_correctsOneError.foldl_correctLine_of_checks fun r hr =>
      (matrixOk_iff.mp (matrixOk_and_one E)).2 r (List.mem_range.mp hr)
  rw [bptcDecode, show const.bptcMaxPasses = 5 from rfl, correctionLoop_succ, hpass]
  cases n with
  | zero => rfl
  | succ n =>
    have hagain : correctionPass const ⟨E &&& 1#196, n + 1, true⟩ = ⟨E &&& 1#196, n + 1, false⟩ :=
      correctionPass_of_matrixOk (x := ⟨_, _, _⟩) (matrixOk_and_one E)
    rw [decide_eq_true n.succ_pos, if_pos rfl, correctionLoop_succ, hagain]
    rfl

theorem infoPositions_ne_zero : ∀ k < 96, infoPositions.getD k 0 ≠ 0 := by decide

/-- Settles O30: the decoder's course is that on the errors, which it removes up to M[0]. -/
theorem bptcCorrectsOneErrorPerColumn : Obligations.BptcCorrectsOneErrorPerColumn := by
  intro s M E hM hE hs
  have hdecode := bptcDecodingDependsOnlyOnTheErrors M E hM
  rw [BitVec.xor_comm, ← hs, bptcDecode_of_atMostOne hE rfl] at hdecode
  obtain ⟨-, -, -, -, -, hok, -⟩ := bptcAcceptsOnlyACheckingMatrix s _ _ hdecode
  obtain ⟨t, hexec, hinfo, ht⟩ := hok ((matrixOk_xor hM _).trans (matrixOk_and_one E))
  refine ⟨t, hexec, fun k hk => ?_, ht.trans ?_⟩
  · rw [hinfo k hk, BitVec.getLsbD_xor, BitVec.getLsbD_and, BitVec.getLsbD_one,
      decide_eq_false (infoPositions_ne_zero k hk), Bool.and_false, Bool.and_false, Bool.false_xor]
  · split <;> rfl

end Sys2Proof.Machine
end

section
/-! SUPPORT. The products with powers of α as iterates of `xtime` (00_scope R13, R17): injective, commuting with every product,
and 255 of them different. -/

namespace Sys2Proof.Machine

/-! ### Iterates of `xtime` as products with powers of α -/

theorem iterate_xtime_xor (poly : BitVec 9) (n : Nat) (a b : Byte) :
    (xtime poly)^[n] (a ^^^ b) = (xtime poly)^[n] a ^^^ (xtime poly)^[n] b := by
  induction n generalizing a b with
  | zero => rfl
  | succ n ih => simp only [Function.iterate_succ_apply, xtime_xor, ih]

@[simp] theorem iterate_xtime_zero (poly : BitVec 9) (n : Nat) : (xtime poly)^[n] 0#8 = 0#8 :=
  Function.iterate_fixed (xtime_zero poly) n

theorem gfMul_gfExp_right (a : Byte) (n : Nat) : gfMul 0x11D a (gfExp 0x11D 0x02 n) = (xtime 0x11D)^[n] a := by
  rw [gfExp_eq_iterate, gfMul_iterate_xtime, gfMul_one]

/-- The product with α is undone by the product with `α^254`. -/
theorem iterate_xtime_injective (n : Nat) : Function.Injective ((xtime 0x11D)^[n]) := by
  have hinv : Function.LeftInverse ((xtime 0x11D)^[254]) (xtime 0x11D) := fun a => by
    rw [← Function.iterate_succ_apply, ← gfMul_gfExp_right, gfExp_255, gfMul_one]
  exact hinv.injective.iterate n

theorem iterate_xtime_ne_zero {a : Byte} (ha : a ≠ 0) (n : Nat) : (xtime 0x11D)^[n] a ≠ 0 := fun h =>
  ha (iterate_xtime_injective n (h.trans (iterate_xtime_zero _ n).symm))

theorem gfExp_ne_zero (n : Nat) : gfExp 0x11D 0x02 n ≠ 0 := by
  rw [gfExp_eq_iterate]
  exact iterate_xtime_ne_zero (by decide) n

/-! ### Products and quotients in GF(2^8) -/

theorem gfMul_comm (a b : Byte) : gfMul 0x11D a b = gfMul 0x11D b a := by
  by_cases ha : a = 0
  · subst ha; simp
  by_cases hb : b = 0
  · subst hb; simp
  rw [gfMul_eq_gfExp_gfLog ha hb, gfMul_eq_gfExp_gfLog hb ha, Nat.add_comm]

theorem gfMul_xor_right (a b c : Byte) : gfMul 0x11D a (b ^^^ c) = gfMul 0x11D a b ^^^ gfMul 0x11D a c := by
  simp only [gfMul_comm a, gfMul_xor_left]

theorem iterate_xtime_gfMul (a b : Byte) (n : Nat) :
    gfMul 0x11D ((xtime 0x11D)^[n] a) b = (xtime 0x11D)^[n] (gfMul 0x11D a b) := by
  rw [gfMul_comm, gfMul_iterate_xtime, gfMul_comm]

theorem gfMul_iterate_iterate (a b : Byte) (m n : Nat) :
    gfMul 0x11D ((xtime 0x11D)^[m] a) ((xtime 0x11D)^[n] b) = (xtime 0x11D)^[m + n] (gfMul 0x11D a b) := by
  rw [iterate_xtime_gfMul, gfMul_iterate_xtime, Function.iterate_add_apply]

theorem gfMul_left_cancel {a b c : Byte} (ha : a ≠ 0) (h : gfMul 0x11D a b = gfMul 0x11D a c) : b = c := by
  rw [gfMul_comm a, gfMul_comm a, ← (gfLog_spec ha).1, gfMul_gfExp_right, gfMul_gfExp_right] at h
  exact iterate_xtime_injective _ h

theorem gfMul_ne_zero {a b : Byte} (ha : a ≠ 0) (hb : b ≠ 0) : gfMul 0x11D a b ≠ 0 := fun h =>
  hb (gfMul_left_cancel ha (h.trans (gfMul_zero _ a).symm))

theorem gfDiv_eq_of_gfMul_eq {a b c : Byte} (hb : b ≠ 0) (h : gfMul 0x11D b c = a) : gfDiv 0x11D 0x02 a b = c :=
  gfMul_left_cancel hb (by rw [gfMul_comm, gfMul_gfDiv a hb, h])

/-! ### α has order 255 (R13) -/

theorem eq_zero_of_gfExp_eq_one : ∀ k < 255, gfExp 0x11D 0x02 k = 1 → k = 0 := by decide +kernel

theorem iterate_xtime_exponent_inj {a : Byte} (ha : a ≠ 0) {m n : Nat} (hm : m < 255) (hn : n < 255)
    (h : (xtime 0x11D)^[m] a = (xtime 0x11D)^[n] a) : m = n := by
  wlog hle : m ≤ n generalizing m n
  · exact (this hn hm h.symm (by omega)).symm
  have hone : gfExp 0x11D 0x02 (n - m) = 1 := by
    refine gfMul_left_cancel ha (iterate_xtime_injective m ?_)
    rw [gfMul_gfExp_right, gfMul_one, ← Function.iterate_add_apply, Nat.add_sub_cancel' hle, h]
  have hdiff := eq_zero_of_gfExp_eq_one (n - m) (by omega) hone
  omega

theorem gfLog_gfExp {n : Nat} (hn : n < 255) : gfLog 0x11D 0x02 (gfExp 0x11D 0x02 n) = n := by
  obtain ⟨hexp, hlt⟩ := gfLog_spec (gfExp_ne_zero n)
  simp only [gfExp_eq_iterate] at hexp hlt ⊢
  exact iterate_xtime_exponent_inj (by decide) hlt hn hexp

/-! ### Sums of bytes -/

theorem xor_xor_xor_cancel (a b c : Byte) : a ^^^ b ^^^ (b ^^^ c) = a ^^^ c := by simp [← BitVec.xor_assoc]

theorem eq_of_xor_corners_eq {a b c d f : Byte} (h : a ^^^ b ^^^ (b ^^^ c) = a ^^^ d ^^^ (f ^^^ c)) : d = f := by
  rw [xor_xor_xor_cancel, BitVec.xor_assoc, BitVec.xor_right_inj, ← BitVec.xor_assoc] at h
  refine BitVec.xor_eq_zero_iff.mp ((BitVec.xor_left_inj c).mp ?_)
  rw [← h, BitVec.zero_xor]

end Sys2Proof.Machine
end

section
/-! SUPPORT. The Reed-Solomon codewords (44_rs R220 to R222): the syndromes are sums of iterates of `xtime`, and the shift register
of R221 keeps what it has read modulo the generator's roots. -/

namespace Sys2Proof.Machine

/-! ### The syndromes (R222) -/

/-- One step of Horner's rule. -/
theorem rsSyndrome_concat (j : Nat) (b : List Byte) (x : Byte) :
    rsSyndrome const j (b ++ [x]) = (xtime 0x11D)^[j] (rsSyndrome const j b) ^^^ x := by
  rw [← gfMul_gfExp_right, rsSyndrome, List.foldl_append]
  rfl

theorem rsSyndrome_addByteError_of_length {b : List Byte} (hb : b.length = 12) (j : Nat) {i : Nat} (hi : i < 12) (e : Byte) :
    rsSyndrome const j (addByteError b i e) = rsSyndrome const j b ^^^ (xtime 0x11D)^[j * (11 - i)] e := by
  have hfactor : (fun y => gfMul 0x11D y (gfExp 0x11D 0x02 j)) = (xtime 0x11D)^[j] := funext fun y => gfMul_gfExp_right y j
  have h := rsSyndrome_addByteError const j b i e (by rwa [hb])
  rwa [show const.gfPoly = 0x11D from rfl, show const.gfAlpha = 0x02 from rfl, hfactor, hb, ← Function.iterate_mul] at h

theorem rsCodeword_iff {b : List Byte} : RsCodeword const b ↔
    b.length = 12 ∧ rsSyndrome const 1 b = 0 ∧ rsSyndrome const 2 b = 0 ∧ rsSyndrome const 3 b = 0 := by
  simp [RsCodeword]

@[simp] theorem addByteError_addByteError (b : List Byte) (i : Nat) (e : Byte) :
    addByteError (addByteError b i e) i e = b := by
  have htwice : ((fun x : Byte => x ^^^ e) ∘ fun x => x ^^^ e) = id := funext fun x => by simp
  simp [addByteError, List.modify_modify_eq, htwice, List.modify_id]

/-! ### The parity (R221) -/

/-- The value at `α^j` of the polynomial of degree 2 that the three cells of the shift register hold. -/
def registerSyndrome (j : Nat) (r : Byte × Byte × Byte) : Byte :=
  (xtime 0x11D)^[2 * j] r.1 ^^^ (xtime 0x11D)^[j] r.2.1 ^^^ r.2.2

theorem rsSyndrome_append_checks (j : Nat) (m : List Byte) (r : Byte × Byte × Byte) :
    rsSyndrome const j (m ++ [r.1, r.2.1, r.2.2]) =
      (xtime 0x11D)^[3 * j] (rsSyndrome const j m) ^^^ registerSyndrome j r := by
  rw [show m ++ [r.1, r.2.1, r.2.2] = m ++ [r.1] ++ [r.2.1] ++ [r.2.2] by simp]
  simp only [rsSyndrome_concat, iterate_xtime_xor, ← Function.iterate_add_apply, registerSyndrome, Nat.two_mul,
    show 3 * j = j + (j + j) by omega, BitVec.xor_assoc]

theorem registerSyndrome_xor (j : Nat) (a b c a' b' c' : Byte) :
    registerSyndrome j (a ^^^ a', b ^^^ b', c ^^^ c') = registerSyndrome j (a, b, c) ^^^ registerSyndrome j (a', b', c') := by
  simp only [registerSyndrome, iterate_xtime_xor]
  ac_rfl

/-- `g(α^j) = 0` (R13): the generator's lower coefficients give `α^(3j)`. -/
theorem registerSyndrome_rsGen {j : Nat} (hj : j ∈ [1, 2, 3]) :
    registerSyndrome j const.rsGen = gfExp 0x11D 0x02 (3 * j) := by
  fin_cases hj <;> decide +kernel

/-- One step of the shift register multiplies its value at a root of the generator by that root and adds the byte at degree 3. -/
theorem registerSyndrome_rsShift {j : Nat} (hj : j ∈ [1, 2, 3]) (r : Byte × Byte × Byte) (x : Byte) :
    registerSyndrome j (rsShift const r x) = (xtime 0x11D)^[j] (registerSyndrome j r) ^^^ (xtime 0x11D)^[3 * j] x := by
  obtain ⟨r0, r1, r2⟩ := r
  have hgen := congrArg (gfMul 0x11D (x ^^^ r0)) (registerSyndrome_rsGen hj)
  simp only [registerSyndrome, gfMul_xor_right, gfMul_iterate_xtime, gfMul_gfExp_right] at hgen
  calc registerSyndrome j (rsShift const (r0, r1, r2) x)
      = ((xtime 0x11D)^[2 * j] (gfMul 0x11D (x ^^^ r0) const.rsGen.1) ^^^
          (xtime 0x11D)^[j] (gfMul 0x11D (x ^^^ r0) const.rsGen.2.1) ^^^ gfMul 0x11D (x ^^^ r0) const.rsGen.2.2) ^^^
          ((xtime 0x11D)^[2 * j] r1 ^^^ (xtime 0x11D)^[j] r2) := by
        simp only [registerSyndrome, rsShift, iterate_xtime_xor, show const.gfPoly = 0x11D from rfl]
        ac_rfl
    _ = (xtime 0x11D)^[3 * j] (x ^^^ r0) ^^^ ((xtime 0x11D)^[2 * j] r1 ^^^ (xtime 0x11D)^[j] r2) := by rw [hgen]
    _ = (xtime 0x11D)^[j] (registerSyndrome j (r0, r1, r2)) ^^^ (xtime 0x11D)^[3 * j] x := by
        simp only [registerSyndrome, iterate_xtime_xor, ← Function.iterate_add_apply, show j + 2 * j = 3 * j by omega,
          ← Nat.two_mul]
        ac_rfl

/-- The parity is `m(x) · x^3` at every root of the generator. -/
theorem registerSyndrome_rsParity {j : Nat} (hj : j ∈ [1, 2, 3]) (m : List Byte) :
    registerSyndrome j (rsParity const m) = (xtime 0x11D)^[3 * j] (rsSyndrome const j m) := by
  induction m using List.reverseRecOn with
  | nil => simp [rsParity, registerSyndrome, rsSyndrome]
  | append_singleton m x ih =>
    have hshift : rsParity const (m ++ [x]) = rsShift const (rsParity const m) x := List.foldl_append ..
    rw [hshift, registerSyndrome_rsShift hj, ih, rsSyndrome_concat, iterate_xtime_xor,
      (Function.Commute.iterate_iterate_self (xtime 0x11D) j (3 * j)).eq]

/-- A polynomial of degree 2 with the three roots α, α² and α³ is 0: the first root fixes `c`, the second `b`, the third `a`. -/
theorem eq_zero_of_registerSyndrome_eq_zero {a b c : Byte}
    (h : ∀ j ∈ [1, 2, 3], registerSyndrome j (a, b, c) = 0) : a = 0 ∧ b = 0 ∧ c = 0 := by
  have hc : c = xtime 0x11D (xtime 0x11D a) ^^^ xtime 0x11D b := (BitVec.xor_eq_zero_iff.mp (h 1 (by decide))).symm
  have h2 : xtime 0x11D (xtime 0x11D (xtime 0x11D (xtime 0x11D a))) ^^^ xtime 0x11D (xtime 0x11D b) ^^^ c = 0 :=
    h 2 (by decide)
  have hb : b = xtime 0x11D (xtime 0x11D a) ^^^ xtime 0x11D a := by
    have hker : ∀ u : Byte, xtime 0x11D (xtime 0x11D u) ^^^ xtime 0x11D u = 0 → u = 0 := by decide +kernel
    refine (BitVec.xor_eq_zero_iff.mp (hker _ ?_)).symm
    calc _ = xtime 0x11D (xtime 0x11D (xtime 0x11D (xtime 0x11D a))) ^^^ xtime 0x11D (xtime 0x11D b) ^^^
          xtime 0x11D (xtime 0x11D (xtime 0x11D a)) ^^^ (xtime 0x11D (xtime 0x11D (xtime 0x11D a)) ^^^ c) := by
          rw [hc]; simp only [xtime_xor]; ac_rfl
      _ = 0 := by rw [xor_xor_xor_cancel, h2]
  have ha : a = 0 := by
    have hker : ∀ u : Byte, registerSyndrome 3 (u, xtime 0x11D (xtime 0x11D u) ^^^ xtime 0x11D u,
        xtime 0x11D (xtime 0x11D u) ^^^ xtime 0x11D (xtime 0x11D (xtime 0x11D u) ^^^ xtime 0x11D u)) = 0 → u = 0 := by
      decide +kernel
    refine hker a ?_
    rw [← hb, ← hc]
    exact h 3 (by decide)
  rw [ha] at hb
  rw [ha, hb] at hc
  exact ⟨ha, hb, hc⟩

theorem eq_of_registerSyndrome_eq {r r' : Byte × Byte × Byte}
    (h : ∀ j ∈ [1, 2, 3], registerSyndrome j r = registerSyndrome j r') : r = r' := by
  obtain ⟨a, b, c⟩ := r
  obtain ⟨a', b', c'⟩ := r'
  have hsum : ∀ j ∈ [1, 2, 3], registerSyndrome j (a ^^^ a', b ^^^ b', c ^^^ c') = 0 := fun j hj => by
    rw [registerSyndrome_xor, h j hj]
    exact BitVec.xor_self
  obtain ⟨ha, hb, hc⟩ := eq_zero_of_registerSyndrome_eq_zero hsum
  rw [BitVec.xor_eq_zero_iff.mp ha, BitVec.xor_eq_zero_iff.mp hb, BitVec.xor_eq_zero_iff.mp hc]

theorem rsSyndromes_eq_zero_iff (m : List Byte) (r : Byte × Byte × Byte) :
    (∀ j ∈ [1, 2, 3], rsSyndrome const j (m ++ [r.1, r.2.1, r.2.2]) = 0) ↔ rsParity const m = r := by
  have hzero {j : Nat} (hj : j ∈ [1, 2, 3]) : rsSyndrome const j (m ++ [r.1, r.2.1, r.2.2]) = 0 ↔
      registerSyndrome j (rsParity const m) = registerSyndrome j r := by
    rw [rsSyndrome_append_checks, registerSyndrome_rsParity hj]
    exact BitVec.xor_eq_zero_iff
  constructor
  · exact fun h => eq_of_registerSyndrome_eq fun j hj => (hzero hj).mp (h j hj)
  · rintro rfl j hj
    exact (hzero hj).mpr rfl

/-- Settles O34: the word and its parity agree at the generator's roots exactly when they agree. -/
theorem rsCodewordsAreThoseWithTheirParity : Obligations.RsCodewordsAreThoseWithTheirParity := by
  intro b hb
  have hsplit : b.take 9 ++ [b.getD 9 0, b.getD 10 0, b.getD 11 0] = b := by
    refine List.ext_getElem (by simp [hb]) fun k _ hk => ?_
    rw [hb] at hk
    interval_cases k <;> simp [hb]
  have hiff := rsSyndromes_eq_zero_iff (b.take 9) (b.getD 9 0, b.getD 10 0, b.getD 11 0)
  rw [hsplit] at hiff
  rw [RsCodeword, and_iff_right hb, hiff]

end Sys2Proof.Machine
end

section
/-! SUPPORT. RSDEC (44_rs R223, R224): one wrong byte gives syndromes in geometric series, every word with such syndromes is
decoded, and two wrong bytes never give them. -/

namespace Sys2Proof.Machine

/-! ### One wrong byte (R223) -/

/-- The syndromes of `b` are those of the one error value `e` at degree `p`: a geometric series of ratio `α^p`. -/
def SyndromesOfError (b : List Byte) (p : Nat) (e : Byte) : Prop :=
  rsSyndrome const 1 b = (xtime 0x11D)^[p] e ∧ rsSyndrome const 2 b = (xtime 0x11D)^[p] (rsSyndrome const 1 b) ∧
    rsSyndrome const 3 b = (xtime 0x11D)^[p] (rsSyndrome const 2 b)

theorem rsCodeword_addByteError_iff {b : List Byte} (hb : b.length = 12) {p : Nat} (hp : p ≤ 11) (e : Byte) :
    RsCodeword const (addByteError b (11 - p) e) ↔ SyndromesOfError b p e := by
  have hzero (j : Nat) : rsSyndrome const j (addByteError b (11 - p) e) = 0 ↔
      rsSyndrome const j b = (xtime 0x11D)^[j * p] e := by
    rw [rsSyndrome_addByteError_of_length hb j (by omega), show 11 - (11 - p) = p by omega]
    exact BitVec.xor_eq_zero_iff
  rw [SyndromesOfError, rsCodeword_iff, hzero, hzero, hzero, length_addByteError, and_iff_right hb, Nat.one_mul]
  refine and_congr_right fun h1 => ?_
  rw [h1, ← Function.iterate_add_apply, ← Nat.two_mul]
  refine and_congr_right fun h2 => ?_
  rw [h2, ← Function.iterate_add_apply, show p + 2 * p = 3 * p by omega]

/-- From `S1` and `S2` in the ratio `α^p` the correction finds the place `p` and the error value. -/
theorem rsCorrect_of_ratio {s e : Byte} (he : e ≠ 0) {p : Nat} (hp : p ≤ 11) (hs : s = (xtime 0x11D)^[p] e)
    (b : List Byte) :
    rsCorrect const b s ((xtime 0x11D)^[p] s) = .ok (addByteError b (11 - p) e) 1 (some (11 - p)) := by
  have hplace : gfDiv 0x11D 0x02 ((xtime 0x11D)^[p] s) s = gfExp 0x11D 0x02 p :=
    gfDiv_eq_of_gfMul_eq (hs ▸ iterate_xtime_ne_zero he p) (gfMul_gfExp_right s p)
  have hvalue : gfDiv 0x11D 0x02 s (gfExp 0x11D 0x02 p) = e :=
    gfDiv_eq_of_gfMul_eq (gfExp_ne_zero p) (by rw [gfMul_comm, gfMul_gfExp_right, hs])
  simp only [rsCorrect, show const.gfPoly = 0x11D from rfl, show const.gfAlpha = 0x02 from rfl, hplace, hvalue,
    gfLog_gfExp (show p < 255 by omega)]
  exact if_neg (by omega)

theorem ratio_of_rsCorrect_ok {b c : List Byte} {s1 s2 : Byte} {n : Nat} {pos : Option Nat} (h1 : s1 ≠ 0) (h2 : s2 ≠ 0)
    (h : rsCorrect const b s1 s2 = .ok c n pos) :
    ∃ p ≤ 11, ∃ e, s1 = (xtime 0x11D)^[p] e ∧ s2 = (xtime 0x11D)^[p] s1 := by
  have hmul := gfMul_gfDiv s2 h1
  have hx : gfDiv 0x11D 0x02 s2 s1 ≠ 0 := fun hx => h2 (by rw [← hmul, hx]; exact zero_gfMul _ _)
  have hexp := (gfLog_spec hx).1
  refine ⟨gfLog 0x11D 0x02 (gfDiv 0x11D 0x02 s2 s1), ?place, gfDiv 0x11D 0x02 s1 (gfDiv 0x11D 0x02 s2 s1), ?_, ?_⟩
  case place =>
    by_contra hgt
    have hfail : rsCorrect const b s1 s2 = .fail := if_pos (Nat.lt_of_not_le hgt)
    cases hfail.symm.trans h
  · rw [← gfMul_gfExp_right, hexp, gfMul_gfDiv s1 hx]
  · rw [← gfMul_gfExp_right, hexp, gfMul_comm, hmul]

/-! ### The decoder (R223) -/

theorem rsDecode_of_codeword {b : List Byte} (h : RsCodeword const b) : rsDecode const b = .ok b 0 none :=
  if_pos (rsCodeword_iff.mp h).2

/-- A word whose syndromes are not in geometric series is rejected. -/
theorem rsDecode_of_ne {b : List Byte}
    (h : gfMul 0x11D (rsSyndrome const 2 b) (rsSyndrome const 2 b) ≠
      gfMul 0x11D (rsSyndrome const 1 b) (rsSyndrome const 3 b)) :
    rsDecode const b = .fail := by
  have hnonzero : ¬(rsSyndrome const 1 b = 0 ∧ rsSyndrome const 2 b = 0 ∧ rsSyndrome const 3 b = 0) := by
    rintro ⟨h1, h2, h3⟩
    exact h (by rw [h1, h2, h3])
  exact (if_neg hnonzero).trans (ite_eq_left_iff.mpr fun _ => if_pos h)

theorem rsDecode_of_syndromesOfError {b : List Byte} {p : Nat} {e : Byte} (hp : p ≤ 11) (he : e ≠ 0)
    (h : SyndromesOfError b p e) : rsDecode const b = .ok (addByteError b (11 - p) e) 1 (some (11 - p)) := by
  obtain ⟨h1, h2, h3⟩ := h
  have hs1 := h1 ▸ iterate_xtime_ne_zero he p
  have hs2 := h2 ▸ iterate_xtime_ne_zero hs1 p
  have hs3 := h3 ▸ iterate_xtime_ne_zero hs2 p
  have hconsistent : gfMul 0x11D (rsSyndrome const 2 b) (rsSyndrome const 2 b) =
      gfMul 0x11D (rsSyndrome const 1 b) (rsSyndrome const 3 b) := by
    rw [h3, gfMul_iterate_xtime, ← iterate_xtime_gfMul, ← h2]
  have hcorrect := rsCorrect_of_ratio he hp h1 b
  rw [← h2] at hcorrect
  rw [rsDecode, hcorrect, if_neg fun h => hs1 h.1, if_neg (by simp only [hs1, hs2, hs3, or_self, not_false_eq_true])]
  exact if_neg (not_not.mpr hconsistent)

theorem rsDecode_addByteError {c : List Byte} (hc : RsCodeword const c) {i : Nat} (hi : i < 12) {e : Byte} (he : e ≠ 0) :
    rsDecode const (addByteError c i e) = .ok c 1 (some i) := by
  obtain ⟨p, hp, rfl⟩ : ∃ p ≤ 11, i = 11 - p := ⟨11 - i, by omega, by omega⟩
  have hlen : (addByteError c (11 - p) e).length = 12 := (length_addByteError ..).trans hc.1
  have hs : SyndromesOfError (addByteError c (11 - p) e) p e :=
    (rsCodeword_addByteError_iff hlen hp e).mp (by rwa [addByteError_addByteError])
  rw [rsDecode_of_syndromesOfError hp he hs, addByteError_addByteError]

/-- The two ways the decoder answers a codeword. -/
theorem rsDecode_ok_cases {k : Const} {b c : List Byte} {n : Nat} {pos : Option Nat} (h : rsDecode k b = .ok c n pos) :
    (rsSyndrome k 1 b = 0 ∧ rsSyndrome k 2 b = 0 ∧ rsSyndrome k 3 b = 0) ∨
      (rsSyndrome k 1 b ≠ 0 ∧ rsSyndrome k 2 b ≠ 0 ∧
        gfMul k.gfPoly (rsSyndrome k 2 b) (rsSyndrome k 2 b) = gfMul k.gfPoly (rsSyndrome k 1 b) (rsSyndrome k 3 b) ∧
        rsCorrect k b (rsSyndrome k 1 b) (rsSyndrome k 2 b) = .ok c n pos) := by
  simp only [rsDecode] at h
  split at h
  case isTrue hzero => exact .inl hzero
  split at h
  case isTrue => cases h
  case isFalse hnonzero =>
    obtain ⟨h1, h2, -⟩ : _ ∧ _ ∧ _ := by simpa only [not_or] using hnonzero
    split at h
    case isTrue => cases h
    case isFalse hconsistent => exact .inr ⟨h1, h2, not_not.mp hconsistent, h⟩

/-- A word that is decoded has the syndromes of one error, which is 0 when all of them are. -/
theorem exists_syndromesOfError_of_rsDecode_ok {b c : List Byte} {n : Nat} {pos : Option Nat}
    (h : rsDecode const b = .ok c n pos) : ∃ p ≤ 11, ∃ e, SyndromesOfError b p e := by
  rcases rsDecode_ok_cases h with ⟨h1, h2, h3⟩ | ⟨hs1, hs2, hconsistent, hcorrect⟩
  · exact ⟨0, by decide, 0, h1, by rw [h1, h2]; rfl, by rw [h2, h3]; rfl⟩
  · obtain ⟨p, hp, e, h1, h2⟩ := ratio_of_rsCorrect_ok hs1 hs2 hcorrect
    refine ⟨p, hp, e, h1, h2, gfMul_left_cancel hs1 ?_⟩
    calc gfMul 0x11D (rsSyndrome const 1 b) (rsSyndrome const 3 b)
        = gfMul 0x11D (rsSyndrome const 2 b) (rsSyndrome const 2 b) := hconsistent.symm
      _ = gfMul 0x11D ((xtime 0x11D)^[p] (rsSyndrome const 1 b)) (rsSyndrome const 2 b) := by rw [← h2]
      _ = gfMul 0x11D (rsSyndrome const 1 b) ((xtime 0x11D)^[p] (rsSyndrome const 2 b)) := by
        rw [iterate_xtime_gfMul, gfMul_iterate_xtime]

theorem exists_codeword_of_rsDecode_ok {b c : List Byte} {n : Nat} {pos : Option Nat} (hb : b.length = 12)
    (h : rsDecode const b = .ok c n pos) : ∃ i < 12, ∃ e, RsCodeword const (addByteError b i e) := by
  obtain ⟨p, hp, e, hs⟩ := exists_syndromesOfError_of_rsDecode_ok h
  exact ⟨11 - p, by omega, e, (rsCodeword_addByteError_iff hb hp e).mpr hs⟩

/-! ### Two wrong bytes (R224) -/

/-- `S_k` of the error values `e` at degree `p` and `f` at degree `q`. -/
def twoErrorSyndrome (e f : Byte) (p q k : Nat) : Byte := (xtime 0x11D)^[k * p] e ^^^ (xtime 0x11D)^[k * q] f

/-- `S2 ⊗ S2` and `S1 ⊗ S3` differ in their mixed terms: twice `e f α^(2p+2q)` against `e f (α^(p+3q) + α^(3p+q))`. -/
theorem twoErrorSyndrome_not_geometric {e f : Byte} (he : e ≠ 0) (hf : f ≠ 0) {p q : Nat} (hp : p ≤ 11) (hq : q ≤ 11)
    (hpq : p ≠ q) :
    gfMul 0x11D (twoErrorSyndrome e f p q 2) (twoErrorSyndrome e f p q 2) ≠
      gfMul 0x11D (twoErrorSyndrome e f p q 1) (twoErrorSyndrome e f p q 3) := by
  intro h
  simp only [twoErrorSyndrome, gfMul_xor_left, gfMul_xor_right, gfMul_iterate_iterate, gfMul_comm f e] at h
  rw [show 2 * q + 2 * p = 2 * p + 2 * q by omega, show 1 * p + 3 * p = 2 * p + 2 * p by omega,
    show 1 * q + 3 * q = 2 * q + 2 * q by omega] at h
  have hexponents := iterate_xtime_exponent_inj (gfMul_ne_zero he hf) (by omega) (by omega) (eq_of_xor_corners_eq h)
  omega

theorem rsDecode_twoByteErrors {c : List Byte} (hc : RsCodeword const c) {i j : Nat} (hij : i < j) (hj : j < 12) {e f : Byte}
    (he : e ≠ 0) (hf : f ≠ 0) : rsDecode const (addByteError (addByteError c i e) j f) = .fail := by
  obtain ⟨hlen, h1, h2, h3⟩ := rsCodeword_iff.mp hc
  have hs (k : Nat) (hk : rsSyndrome const k c = 0) :
      rsSyndrome const k (addByteError (addByteError c i e) j f) = twoErrorSyndrome e f (11 - i) (11 - j) k := by
    rw [rsSyndrome_addByteError_of_length ((length_addByteError ..).trans hlen) k hj,
      rsSyndrome_addByteError_of_length hlen k (by omega), hk, BitVec.ofNat_eq_ofNat, BitVec.zero_xor, twoErrorSyndrome]
  apply rsDecode_of_ne
  rw [hs 1 h1, hs 2 h2, hs 3 h3]
  exact twoErrorSyndrome_not_geometric he hf (by omega) (by omega) (by omega)

/-! ### The information bytes and the mask (20_memory R75, 44_rs R224) -/

theorem State.length_infoBytes (s : State) : s.infoBytes.length = 12 := by simp [State.infoBytes]

theorem length_maskChecks (m : BitVec 24) (b : List Byte) : (maskChecks m b).length = min b.length 12 := by
  simp [maskChecks]

theorem zipWith_xor_zipWith_xor {b m : List Byte} (h : b.length = m.length) :
    List.zipWith (fun x y => x ^^^ y) (List.zipWith (fun x y => x ^^^ y) b m) m = b := by
  induction b generalizing m with
  | nil => simp
  | cons x b ih =>
    cases m with
    | nil => simp at h
    | cons y m => simp [ih (Nat.succ.inj h)]

/-- Restoring the mask undoes removing it. -/
theorem maskChecks_maskChecks (m : BitVec 24) {b : List Byte} (h : b.length = 12) : maskChecks m (maskChecks m b) = b :=
  zipWith_xor_zipWith_xor h

theorem append_bytes_eq_word (w : Word) :
    w.extractLsb' 24 8 ++ w.extractLsb' 16 8 ++ w.extractLsb' 8 8 ++ w.extractLsb' 0 8 = w := by
  rw [BitVec.extractLsb'_append_extractLsb'_eq_extractLsb' (by decide),
    BitVec.extractLsb'_append_extractLsb'_eq_extractLsb' (by decide),
    BitVec.extractLsb'_append_extractLsb'_eq_extractLsb' (by decide)]
  exact BitVec.extractLsb'_eq_self

theorem State.packInfoWord_infoBytes (s : State) {j : Nat} (hj : j < 3) : packInfoWord s.infoBytes j = s.infoWord j := by
  have hbyte {r : Nat} (hr : r < 4) : s.infoBytes.getD (4 * j + r) 0 = (s.infoWord j).extractLsb' (24 - 8 * r) 8 := by
    have hlt : 4 * j + r < 12 := by omega
    rw [State.infoBytes, List.getD_eq_getElem?_getD, List.getElem?_map, List.getElem?_range hlt, Option.map_some,
      Option.getD_some, s.infoByte_eq_extractLsb', show (4 * j + r) / 4 = j by omega, show (4 * j + r) % 4 = r by omega]
  have hfirst := hbyte (r := 0) (by decide)
  rw [Nat.add_zero] at hfirst
  rw [packInfoWord, hfirst, hbyte (by decide), hbyte (by decide), hbyte (by decide)]
  exact append_bytes_eq_word _

theorem State.packInfoBytes_infoBytes (s : State) : packInfoBytes s.infoBytes = s.info := by
  have hword {j : Nat} (hj : j < 3) : packInfoWord s.infoBytes j = s.info[j] :=
    (s.packInfoWord_infoBytes hj).trans (State.infoWord_of_lt hj s)
  ext j hj
  rw [← hword hj]
  interval_cases j <;> rfl

/-! ### RSDEC (R224) -/

theorem rsdec_of_ok {m : BitVec 24} {s : State} {c : List Byte} {n : Nat} {pos : Option Nat}
    (h : rsDecode const (maskChecks m s.infoBytes) = .ok c n pos) :
    rsdec const m s = { s with
      info := packInfoBytes (maskChecks m c), rsr := ⟨BitVec.ofNat 2 n, BitVec.ofNat 4 (pos.getD 0xF), true⟩,
      status := .after s.cmd s.status.wdrop .none } := by
  rw [rsdec, h]; rfl

theorem rsdec_of_fail {m : BitVec 24} {s : State} (h : rsDecode const (maskChecks m s.infoBytes) = .fail) :
    rsdec const m s = { s with rsr := ⟨3, 0xF, false⟩, status := .after s.cmd s.status.wdrop .rsUncorrectable } := by
  rw [rsdec, h]; rfl

/-- Settles O35: the decoder answers the codeword itself, and the mask restored gives INFO back. -/
theorem rsdecAcceptsACodeword : Obligations.RsdecAcceptsACodeword := by
  intro p hp s hcodeword
  rw [exec_of_mem_rsdecMasks hp, rsdec_of_ok (rsDecode_of_codeword hcodeword),
    maskChecks_maskChecks _ s.length_infoBytes, s.packInfoBytes_infoBytes]
  rfl

/-- Settles O36: the syndromes of one wrong byte give its place and its error value back. -/
theorem rsdecCorrectsOneByte : Obligations.RsdecCorrectsOneByte := by
  intro p hp s c i e hc hi he hword
  have hdecode := rsDecode_addByteError hc hi he
  rw [← hword] at hdecode
  rw [exec_of_mem_rsdecMasks hp, rsdec_of_ok hdecode]
  rfl

/-- Settles O37: a word that is decoded is within one symbol of a codeword. -/
theorem rsdecRejectsBeyondOneSymbol : Obligations.RsdecRejectsBeyondOneSymbol := by
  intro p hp s hfar
  have hlen : (maskChecks p.2 s.infoBytes).length = 12 := by rw [length_maskChecks, s.length_infoBytes, Nat.min_self]
  rw [exec_of_mem_rsdecMasks hp]
  cases hdecode : rsDecode const (maskChecks p.2 s.infoBytes) with
  | ok c n pos =>
    obtain ⟨i, hi, e, hc⟩ := exists_codeword_of_rsDecode_ok hlen hdecode
    exact absurd (addByteError_addByteError _ i e).symm (hfar _ i e hc hi)
  | fail => rw [rsdec_of_fail hdecode]

/-- Settles O38: the syndromes of two wrong bytes are never in geometric series. -/
theorem rsdecRejectsTwoByteErrors : Obligations.RsdecRejectsTwoByteErrors := by
  intro p hp s c i j e f hc hij hj he hf hword
  have hdecode := rsDecode_twoByteErrors hc hij hj he hf
  rw [← hword] at hdecode
  rw [exec_of_mem_rsdecMasks hp, rsdec_of_fail hdecode]

end Sys2Proof.Machine
end

section
/-! SUPPORT. CRCCHK (45_crc R252): the exact next state of the five kinds, when each passes, and what a failure writes. -/

namespace Sys2Proof.Machine

/-! ### The computed and the transmitted check (R252, R254) -/

/-- The check writes CRCR and STATUS by any condition `P` that says the computed and the transmitted value agree. -/
theorem crcchkResult_of_iff (s : State) {computed recv : BitVec 24} {P : Prop} [Decidable P] (h : computed = recv ↔ P) :
    crcchkResult s computed recv = { s with
      crcr := ⟨computed, P⟩, status := .after s.cmd s.status.wdrop (if P then .none else .crcMismatch) } := by
  rw [crcchkResult_eq]
  by_cases hP : P
  · rw [if_pos (h.mpr hP), if_pos hP, decide_eq_true (h.mpr hP), decide_eq_true hP]; rfl
  · rw [if_neg (mt h.mp hP), if_neg hP, decide_eq_false (mt h.mp hP), decide_eq_false hP]; rfl

theorem crcchkResult_ok_iff {s : State} {computed recv : BitVec 24} :
    (crcchkResult s computed recv).status.ok = true ↔ computed = recv := by
  rw [crcchkResult_of_iff s Iff.rfl]
  by_cases h : computed = recv <;> simp [Status.after, h]

theorem crcchkResult_of_ok_eq_false {s : State} {computed recv : BitVec 24}
    (h : (crcchkResult s computed recv).status.ok = false) :
    (crcchkResult s computed recv).status.err = .crcMismatch ∧ (crcchkResult s computed recv).crcr.ok = false := by
  have hne : computed ≠ recv := fun heq => by simp [crcchkResult_ok_iff.mpr heq] at h
  rw [crcchkResult_eq, if_neg hne, decide_eq_false hne]
  exact ⟨rfl, rfl⟩

theorem setWidth_24_inj {x y : BitVec 16} : x.setWidth 24 = y.setWidth 24 ↔ x = y :=
  ⟨fun h => by simpa using congrArg (BitVec.setWidth 16) h, fun h => h ▸ rfl⟩

theorem seqInt_append (m n : Nat) (x : BitSeq) (a : Nat) :
    seqInt (m + n) x a = seqInt m x a ++ seqInt n x (a + m) := by
  refine BitVec.eq_of_getLsbD_eq fun j hj => ?_
  rw [getLsbD_seqInt, BitVec.getLsbD_append, getLsbD_seqInt, getLsbD_seqInt]
  by_cases hn : j < n
  · simp [hj, hn, show a + (m + n - 1 - j) = a + m + (n - 1 - j) by omega]
  · simp [hj, hn, show j - n < m by omega, show m + n - 1 - j = m - 1 - (j - n) by omega]

/-- R252: the transmitted check of the 24-bit kinds is info bytes 9 to 11. -/
theorem State.seqInt_checkBytes (s : State) : seqInt 24 s.infoBit 72 = s.infoByte 9 ++ s.infoByte 10 ++ s.infoByte 11 := by
  rw [seqInt_append 16 8, seqInt_append 8 8]; rfl

/-! ### The exact next state -/

theorem crcchk16_eq (m : BitVec 16) (s : State) :
    crcchk16 const m s = { s with
      crcr := ⟨(crc16 const s.infoBit 80 ^^^ m).setWidth 24, crc16 const s.infoBit 80 ^^^ m = seqInt 16 s.infoBit 80⟩
      status := .after s.cmd s.status.wdrop
        (if crc16 const s.infoBit 80 ^^^ m = seqInt 16 s.infoBit 80 then .none else .crcMismatch) } :=
  crcchkResult_of_iff s setWidth_24_inj

theorem crcchk24_eq (m : BitVec 24) (s : State) :
    crcchk24 const m s = { s with
      crcr := ⟨check24 const (s.infoBytes.take 9) ^^^ m,
        check24 const (s.infoBytes.take 9) ^^^ m = s.infoByte 9 ++ s.infoByte 10 ++ s.infoByte 11⟩
      status := .after s.cmd s.status.wdrop
        (if check24 const (s.infoBytes.take 9) ^^^ m = s.infoByte 9 ++ s.infoByte 10 ++ s.infoByte 11 then .none
          else .crcMismatch) } :=
  crcchkResult_of_iff s (by rw [s.seqInt_checkBytes])

/-- Settles O39: the two widths of the comparison agree, and the transmitted 24 bits are the bytes 9 to 11. -/
theorem crcchkComparesTheMaskedCheck : Obligations.CrcchkComparesTheMaskedCheck :=
  ⟨fun _ hp s => (exec_of_mem_crcchk16Masks hp s).trans (congrArg _ (crcchk16_eq _ s)),
    fun _ hp s => (exec_of_mem_crcchk24Masks hp s).trans (congrArg _ (crcchk24_eq _ s))⟩

/-! ### When a 16-bit kind passes -/

theorem crcchk16_ok_iff {m : BitVec 16} {s : State} :
    (crcchk16 const m s).status.ok = true ↔ crc16 const s.infoBit 80 ^^^ m = seqInt 16 s.infoBit 80 :=
  crcchkResult_ok_iff.trans setWidth_24_inj

theorem command_eq_of_crcchk16Mask_eq : ∀ p ∈ crcchk16Masks, ∀ q ∈ crcchk16Masks, p.2 = q.2 → p.1 = q.1 := by decide

/-- Settles O43: a word that passes two kinds gives both the same mask, and the masks of R8 are different. -/
theorem crcKindsExclude : Obligations.CrcKindsExclude := by
  intro p hp q hq hne s t hexec hok
  cases eq_of_exec_eq_next hexec (exec_of_mem_crcchk16Masks hp s)
  refine ⟨_, exec_of_mem_crcchk16Masks hq s, Bool.eq_false_iff.mpr fun hok' => hne ?_⟩
  have hmask : crc16 const s.infoBit 80 ^^^ p.2 = crc16 const s.infoBit 80 ^^^ q.2 :=
    (crcchk16_ok_iff.mp hok).trans (crcchk16_ok_iff.mp hok').symm
  exact command_eq_of_crcchk16Mask_eq p hp q hq (BitVec.xor_right_inj _ |>.mp hmask)

end Sys2Proof.Machine
end

section
/-! SUPPORT. The 16-bit check (45_crc R250): the shift register as long division by the generator, and as a reversible step. -/

namespace Sys2Proof.Machine

/-! ### The register is the remainder (R14, R250) -/

/-- What long division has left after some bits: the register, at the place of the next 16 bits, added to the `n` bits not yet
read from `x<i..>` on. -/
def crcDividend (reg : BitVec 16) (x : BitSeq) (i n : Nat) : BitVec 96 :=
  (reg.setWidth 96 <<< n) ^^^ ((seqInt n x i).setWidth 96 <<< 16)

theorem getLsbD_crcDividend (reg : BitVec 16) (x : BitSeq) (i n : Nat) {j : Nat} (hj : j < 96) :
    (crcDividend reg x i n).getLsbD j =
      ((decide (n ≤ j) && reg.getLsbD (j - n)) ^^ (decide (16 ≤ j ∧ j < n + 16) && x (i + (n + 15 - j)))) := by
  simp only [crcDividend, BitVec.getLsbD_xor, BitVec.getLsbD_shiftLeft, BitVec.getLsbD_setWidth, getLsbD_seqInt, hj,
    show j - n < 96 by omega, show j - 16 < 96 by omega, decide_true, Bool.true_and]
  congr 1
  · rw [← decide_not, decide_eq_decide.mpr Nat.not_lt]
  · by_cases h : 16 ≤ j
    · simp [h, show ¬j < 16 by omega, show j - 16 < n ↔ j < n + 16 by omega,
        show n - 1 - (j - 16) = n + 15 - j by omega]
    · simp [h, show j < 16 by omega]

/-- The next bit read, and the bit shifted out of the register, stand together at degree `n + 16`. -/
theorem crcDividend_succ (reg : BitVec 16) (x : BitSeq) (i n : Nat) :
    crcDividend reg x i (n + 1) =
      crcDividend (reg <<< 1) x (i + 1) n ^^^ (if reg.msb ^^ x i then bitAt 96 (n + 16) else 0#96) := by
  refine BitVec.eq_of_getLsbD_eq fun j hj => ?_
  have hfeedback : (if reg.msb ^^ x i then bitAt 96 (n + 16) else 0#96).getLsbD j =
      ((reg.msb ^^ x i) && decide (j = n + 16)) := by
    cases reg.msb ^^ x i
    · exact BitVec.getLsbD_zero
    · simp only [if_true, getLsbD_bitAt, Bool.true_and]
      grind
  have hshift (hlt : j < n + 16) :
      (decide (n ≤ j) && (reg <<< 1).getLsbD (j - n)) = (decide (n + 1 ≤ j) && reg.getLsbD (j - (n + 1))) := by
    rw [BitVec.getLsbD_shiftLeft, Nat.sub_sub]
    by_cases h : n < j
    · simp [h, h.le, show j - n < 16 by omega, show j - n ≠ 0 by omega]
    · simp [h, show j - n = 0 by omega]
  rw [BitVec.getLsbD_xor, hfeedback, getLsbD_crcDividend _ _ _ _ hj, getLsbD_crcDividend _ _ _ _ hj]
  rcases lt_trichotomy j (n + 16) with hlt | rfl | hgt
  · rw [hshift hlt]
    simp [hlt, hlt.ne, show j < n + 1 + 16 by omega, show i + 1 + (n + 15 - j) = i + (n + 1 + 15 - j) by omega]
  · simp [BitVec.msb_eq_getLsbD_last, show n + 16 - (n + 1) = 15 by omega]
  · simp [hgt.ne', show ¬j < n + 1 + 16 by omega, show ¬j < n + 16 by omega, show 16 ≤ j - (n + 1) by omega,
      show 16 ≤ j - n by omega, BitVec.getLsbD_of_ge]

theorem crcDividend_xor (r r' : BitVec 16) (x : BitSeq) (i n : Nat) :
    crcDividend (r ^^^ r') x i n = crcDividend r x i n ^^^ (r'.setWidth 96 <<< n) := by
  rw [crcDividend, BitVec.setWidth_xor, BitVec.shiftLeft_xor_distrib, crcDividend, BitVec.xor_assoc, BitVec.xor_assoc,
    BitVec.xor_comm (r'.setWidth 96 <<< n)]

/-- The generator is `x^16` and the constant of R14. -/
theorem generator_shiftLeft (n : Nat) :
    0x11021#96 <<< n = bitAt 96 (n + 16) ^^^ (const.crcPoly.setWidth 96 <<< n) := by
  have hgenerator : 0x11021#96 = 1#96 <<< 16 ^^^ const.crcPoly.setWidth 96 := by decide
  rw [hgenerator, BitVec.shiftLeft_xor_distrib, bitAt, BitVec.twoPow_eq, Nat.add_comm, BitVec.shiftLeft_add]

/-- One step of the division is one bit into the register. -/
theorem polyRem_step_crcDividend (reg : BitVec 16) (x : BitSeq) (i : Nat) {n : Nat} (hn : n < 80) :
    (if (crcDividend reg x i (n + 1)).getLsbD (n + 16) then crcDividend reg x i (n + 1) ^^^ (0x11021#96 <<< n)
      else crcDividend reg x i (n + 1)) = crcDividend (crcShift const reg (x i)) x (i + 1) n := by
  have htop : (crcDividend (reg <<< 1) x (i + 1) n).getLsbD (n + 16) = false := by
    rw [getLsbD_crcDividend _ _ _ _ (by omega)]
    simp
  rw [crcDividend_succ, BitVec.getLsbD_xor, htop, Bool.false_xor, crcShift, generator_shiftLeft]
  cases reg.msb ^^ x i with
  | false => simp
  | true =>
    have hbit : (bitAt 96 (n + 16)).getLsbD (n + 16) = true := by simp [getLsbD_bitAt]; omega
    rw [if_pos rfl, if_pos hbit, if_pos rfl, crcDividend_xor, BitVec.xor_assoc,
      ← BitVec.xor_assoc (bitAt 96 (n + 16)), BitVec.xor_self, BitVec.zero_xor]

theorem polyRem_crcDividend (x : BitSeq) {n : Nat} (hn : n ≤ 80) (i : Nat) :
    polyRem 0x11021#96 16 n (crcDividend (crcReg const x i) x i n) = (crcReg const x (i + n)).setWidth 96 := by
  induction n generalizing i with
  | zero => simp [polyRem, crcDividend, seqInt, packBits]
  | succ n ih =>
    rw [polyRem, polyRem_step_crcDividend _ _ _ (by omega), ← crcReg, ih (by omega), Nat.succ_add_eq_add_succ]

/-- The division starts with the 80 bits times `x^16`, the register being 0. -/
theorem seqInt_append_zero_eq_crcDividend (x : BitSeq) :
    seqInt 80 x 0 ++ 0#16 = crcDividend (crcReg const x 0) x 0 80 := by
  refine BitVec.eq_of_getLsbD_eq fun j hj => ?_
  rw [show crcReg const x 0 = 0#16 from rfl, getLsbD_crcDividend _ _ _ _ hj, BitVec.getLsbD_append, getLsbD_seqInt]
  by_cases h : 16 ≤ j
  · simp [h, hj, show ¬j < 16 by omega, show j - 16 < 80 by omega, show 79 - (j - 16) = 95 - j by omega]
  · simp [h, show j < 16 by omega]

/-- Settles O40: long division leaves the register, whose complement is the check. -/
theorem crcIsThePolynomialRemainder : Obligations.CrcIsThePolynomialRemainder := by
  intro x
  rw [seqInt_append_zero_eq_crcDividend, polyRem_crcDividend x (Nat.le_refl 80), Nat.zero_add, crc16,
    BitVec.setWidth_setWidth_of_le _ (by decide), BitVec.setWidth_eq]
  exact BitVec.xor_allOnes

/-! ### A step of the register is reversible (R252, corner cases) -/

/-- Bit 0 of the register after a step is the bit fed back, which the generator's constant term writes. -/
theorem crcShift_inj {r r' : BitVec 16} {b b' : Bool} (h : crcShift const r b = crcShift const r' b') :
    (r.msb ^^ b) = (r'.msb ^^ b') ∧ r <<< 1 = r' <<< 1 := by
  have hbit (r : BitVec 16) (b : Bool) : (crcShift const r b).getLsbD 0 = (r.msb ^^ b) := by
    rw [crcShift]
    cases r.msb ^^ b <;> simp [show const.crcPoly = 0x1021 from rfl]
  have hfeedback : (r.msb ^^ b) = (r'.msb ^^ b') := by rw [← hbit, h, hbit]
  refine ⟨hfeedback, ?_⟩
  rw [crcShift, crcShift, hfeedback] at h
  split at h
  · exact (BitVec.xor_left_inj _).mp h
  · exact h

theorem crcShift_ne_of_register_ne {r r' : BitVec 16} (h : r ≠ r') (b : Bool) :
    crcShift const r b ≠ crcShift const r' b := by
  intro heq
  obtain ⟨hfeedback, hshift⟩ := crcShift_inj heq
  refine h (BitVec.eq_of_getLsbD_eq fun j hj => ?_)
  by_cases hlast : j = 15
  · simpa [BitVec.msb_eq_getLsbD_last, hlast] using hfeedback
  · have hbit := congrArg (BitVec.getLsbD · (j + 1)) hshift
    simpa [show j + 1 < 16 by omega, BitVec.getLsbD_eq_getElem hj] using hbit

theorem crcShift_ne_of_bit_ne (r : BitVec 16) {b b' : Bool} (h : b ≠ b') : crcShift const r b ≠ crcShift const r b' :=
  fun heq => h (by simpa using (crcShift_inj heq).1)

theorem crcReg_congr {k : Const} {x y : BitSeq} {n : Nat} (h : ∀ i < n, x i = y i) : crcReg k x n = crcReg k y n := by
  induction n with
  | zero => rfl
  | succ n ih => rw [crcReg, crcReg, ih fun i hi => h i (by omega), h n (by omega)]

/-- Two sequences that differ in one bit leave different registers from that bit on. -/
theorem crcReg_ne_of_bit_ne {x y : BitSeq} {j n : Nat} (hj : j < n) (hne : x j ≠ y j) (h : ∀ i < n, i ≠ j → x i = y i) :
    crcReg const x n ≠ crcReg const y n := by
  induction n, hj using Nat.le_induction with
  | base =>
    rw [crcReg, crcReg, crcReg_congr fun i hi => h i (by omega) (by omega)]
    exact crcShift_ne_of_bit_ne _ hne
  | succ n hn ih =>
    rw [crcReg, crcReg, h n (by omega) (by omega)]
    exact crcShift_ne_of_register_ne (ih fun i hi => h i (by omega)) _

theorem crc16_congr {k : Const} {x y : BitSeq} {n : Nat} (h : ∀ i < n, x i = y i) : crc16 k x n = crc16 k y n :=
  congrArg (· ^^^ k.crcXor) (crcReg_congr h)

theorem crc16_ne_of_bit_ne {x y : BitSeq} {j n : Nat} (hj : j < n) (hne : x j ≠ y j) (h : ∀ i < n, i ≠ j → x i = y i) :
    crc16 const x n ≠ crc16 const y n :=
  fun heq => crcReg_ne_of_bit_ne hj hne h ((BitVec.xor_left_inj _).mp heq)

theorem seqInt_ne_of_bit_ne {x y : BitSeq} {a j n : Nat} (ha : a ≤ j) (hj : j < a + n) (hne : x j ≠ y j) :
    seqInt n x a ≠ seqInt n y a := by
  intro heq
  have hbit := congrArg (BitVec.getLsbD · (a + n - 1 - j)) heq
  simp only [getLsbD_seqInt, show a + n - 1 - j < n by omega, show a + (n - 1 - (a + n - 1 - j)) = j by omega, decide_true,
    Bool.true_and] at hbit
  exact hne hbit

/-- Settles O41: a data bit changes only the computed check, a check bit only the transmitted one. -/
theorem crcDetectsEverySingleBitError : Obligations.CrcDetectsEverySingleBitError := by
  intro p hp s s' t j hj hflip hexec hok
  cases eq_of_exec_eq_next hexec (exec_of_mem_crcchk16Masks hp s)
  have hpass := crcchk16_ok_iff.mp hok
  have hne : s.infoBit j ≠ s'.infoBit j := by simp [hflip j hj]
  have hsame (i : Nat) (hi : i < 96) (hij : i ≠ j) : s.infoBit i = s'.infoBit i := by simp [hflip i hi, hij]
  have hfail : (crcchk16 const p.2 s').status.ok = false := by
    refine Bool.eq_false_iff.mpr fun hok' => ?_
    have hpass' := crcchk16_ok_iff.mp hok'
    by_cases hdata : j < 80
    · have hrecv : seqInt 16 s.infoBit 80 = seqInt 16 s'.infoBit 80 :=
        seqInt_congr fun i hlo hhi => hsame i (by omega) (by omega)
      rw [← hrecv, ← hpass, BitVec.xor_left_inj] at hpass'
      exact crc16_ne_of_bit_ne hdata hne (fun i hi => hsame i (by omega)) hpass'.symm
    · rw [← crc16_congr fun i hi => hsame i (by omega) (by omega), hpass] at hpass'
      exact seqInt_ne_of_bit_ne (by omega) hj hne hpass'
  exact ⟨_, exec_of_mem_crcchk16Masks hp s', hfail, crcchkResult_of_ok_eq_false hfail⟩

end Sys2Proof.Machine
end

section
/-! SUPPORT. The 24-bit check (45_crc R251 to R253): it passes on the masked codewords, which one wrong byte leaves and which a
successful RSDEC writes. -/

namespace Sys2Proof.Machine

/-! ### The 24-bit check and the codewords -/

theorem append_eq_append_iff {v w : Nat} {a a' : BitVec v} {b b' : BitVec w} : a ++ b = a' ++ b' ↔ a = a' ∧ b = b' := by
  refine ⟨fun h => ⟨?_, ?_⟩, fun ⟨ha, hb⟩ => ha ▸ hb ▸ rfl⟩
  · simpa only [BitVec.extractLsb'_append_eq_left] using congrArg (BitVec.extractLsb' w v) h
  · simpa only [BitVec.extractLsb'_append_eq_right] using congrArg (BitVec.extractLsb' 0 w) h

theorem xor_eq_iff_eq_xor {w : Nat} {a b c : BitVec w} : a ^^^ b = c ↔ a = c ^^^ b := by
  rw [← BitVec.xor_left_inj b, BitVec.xor_assoc, BitVec.xor_self, BitVec.xor_zero]

/-- The three bytes of a mask are XORed into the three check bytes (R224, R252). -/
theorem check24_xor_eq_iff {m : BitVec 24} {b : List Byte} {x y z : Byte} :
    check24 const b ^^^ m = x ++ y ++ z ↔
      rsParity const b = (x ^^^ m.extractLsb' 16 8, y ^^^ m.extractLsb' 8 8, z ^^^ m.extractLsb' 0 8) := by
  have hm : m = m.extractLsb' 16 8 ++ m.extractLsb' 8 8 ++ m.extractLsb' 0 8 := by
    rw [BitVec.extractLsb'_append_extractLsb'_eq_extractLsb' (by decide),
      BitVec.extractLsb'_append_extractLsb'_eq_extractLsb' (by decide)]
    exact BitVec.extractLsb'_eq_self.symm
  have hcheck : check24 const b = (rsParity const b).1 ++ (rsParity const b).2.1 ++ (rsParity const b).2.2 := rfl
  rw [hcheck, xor_eq_iff_eq_xor]
  conv_lhs => rw [hm, BitVec.xor_append, BitVec.xor_append, append_eq_append_iff, append_eq_append_iff]
  rw [Prod.ext_iff, Prod.ext_iff, and_assoc]

theorem length_maskChecks_of_length (m : BitVec 24) {b : List Byte} (hb : b.length = 12) : (maskChecks m b).length = 12 := by
  rw [length_maskChecks, hb, Nat.min_self]

/-- Masking keeps the data bytes and adds the three bytes of the mask to the check bytes (R224). -/
theorem maskChecks_getD {m : BitVec 24} {b : List Byte} (hb : b.length = 12) :
    (maskChecks m b).take 9 = b.take 9 ∧ (maskChecks m b).getD 9 0 = b.getD 9 0 ^^^ m.extractLsb' 16 8 ∧
    (maskChecks m b).getD 10 0 = b.getD 10 0 ^^^ m.extractLsb' 8 8 ∧
    (maskChecks m b).getD 11 0 = b.getD 11 0 ^^^ m.extractLsb' 0 8 := by
  refine ⟨List.ext_getElem (by simp [maskChecks, hb]) fun k hk _ => ?_, ?_, ?_, ?_⟩
  · have hk9 : k < 9 := by rw [List.length_take] at hk; omega
    interval_cases k <;> simp [maskChecks]
  all_goals simp [maskChecks, hb]

theorem crcchk24_ok_iff {m : BitVec 24} {s : State} :
    (crcchk24 const m s).status.ok = true ↔ RsCodeword const (maskChecks m s.infoBytes) := by
  have hlen := length_maskChecks_of_length m s.length_infoBytes
  obtain ⟨hdata, h9, h10, h11⟩ := maskChecks_getD (m := m) s.length_infoBytes
  rw [crcchk24, crcchkResult_ok_iff, s.seqInt_checkBytes, check24_xor_eq_iff,
    rsCodewordsAreThoseWithTheirParity _ hlen, hdata, h9, h10, h11]
  rfl

theorem maskChecks_addByteError (m : BitVec 24) (b : List Byte) (i : Nat) (e : Byte) :
    maskChecks m (addByteError b i e) = addByteError (maskChecks m b) i e := by
  refine List.ext_getElem (by simp [maskChecks]) fun k _ _ => ?_
  simp only [maskChecks, addByteError, List.getElem_zipWith, List.getElem_modify]
  split
  · ac_rfl
  · rfl

/-- Two codewords differ in more than one byte: S1 of one error is not 0 (R223). -/
theorem not_rsCodeword_addByteError {c : List Byte} (hc : RsCodeword const c) {i : Nat} (hi : i < 12) {e : Byte} (he : e ≠ 0) :
    ¬RsCodeword const (addByteError c i e) := by
  intro herr
  obtain ⟨hlen, hzero, -, -⟩ := rsCodeword_iff.mp hc
  obtain ⟨-, h1, -, -⟩ := rsCodeword_iff.mp herr
  rw [rsSyndrome_addByteError_of_length hlen 1 hi, hzero] at h1
  exact iterate_xtime_ne_zero he _ (by simpa using h1)

/-- Settles O42: a passing word is a masked codeword, and one wrong byte leaves the code. -/
theorem parityDetectsEveryByteError : Obligations.ParityDetectsEveryByteError := by
  intro p hp s s' t i e hi he hbytes hexec hok
  cases eq_of_exec_eq_next hexec (exec_of_mem_crcchk24Masks hp s)
  have hfail : (crcchk24 const p.2 s').status.ok = false := by
    rw [Bool.eq_false_iff, ne_eq, crcchk24_ok_iff, hbytes, maskChecks_addByteError]
    exact not_rsCodeword_addByteError (crcchk24_ok_iff.mp hok) hi he
  exact ⟨_, exec_of_mem_crcchk24Masks hp s', hfail, crcchkResult_of_ok_eq_false hfail⟩

/-! ### After RSDEC (R253) -/

theorem addByteError_zero (b : List Byte) (i : Nat) : addByteError b i 0 = b := by
  have hid : (fun x : Byte => x ^^^ 0) = id := funext fun _ => BitVec.xor_zero
  rw [addByteError, hid, List.modify_id]

/-- What the decoder answers is a codeword: the one within one symbol of the word (R223). -/
theorem rsCodeword_of_rsDecode_ok {b c : List Byte} {n : Nat} {pos : Option Nat} (hb : b.length = 12)
    (h : rsDecode const b = .ok c n pos) : RsCodeword const c := by
  obtain ⟨i, hi, e, hc⟩ := exists_codeword_of_rsDecode_ok hb h
  by_cases he : e = 0
  · rw [he, addByteError_zero] at hc
    cases h.symm.trans (rsDecode_of_codeword hc)
    exact hc
  · have hdecode := rsDecode_addByteError hc hi he
    rw [addByteError_addByteError, h] at hdecode
    cases hdecode
    exact hc

theorem extractLsb'_packInfoWord (b : List Byte) (j : Nat) {r : Nat} (hr : r < 4) :
    (packInfoWord b j).extractLsb' (24 - 8 * r) 8 = b.getD (4 * j + r) 0 := by
  obtain ⟨h012, h3⟩ := append_eq_append_iff.mp (append_bytes_eq_word (packInfoWord b j))
  obtain ⟨h01, h2⟩ := append_eq_append_iff.mp h012
  obtain ⟨h0, h1⟩ := append_eq_append_iff.mp h01
  interval_cases r <;> assumption

theorem State.getElem_infoBytes (s : State) {k : Nat} (hk : k < s.infoBytes.length) : s.infoBytes[k] = s.infoByte k := by
  simp [State.infoBytes]

theorem State.infoBytes_of_packInfoBytes {s : State} {b : List Byte} (hb : b.length = 12) (h : s.info = packInfoBytes b) :
    s.infoBytes = b := by
  refine List.ext_getElem (by rw [s.length_infoBytes, hb]) fun k hk hk' => ?_
  rw [s.length_infoBytes] at hk
  have hword : s.infoWord (k / 4) = packInfoWord b (k / 4) := by
    rw [State.infoWord_of_lt (by omega), h]
    interval_cases k <;> rfl
  rw [State.getElem_infoBytes, s.infoByte_eq_extractLsb', hword, extractLsb'_packInfoWord b _ (by omega),
    Nat.div_add_mod, List.getD_eq_getElem]

/-- RSDEC succeeds exactly when INFO then holds a masked codeword (R224). -/
theorem rsdec_ok_iff (m : BitVec 24) (s : State) :
    (rsdec const m s).status.ok = true ↔ RsCodeword const (maskChecks m (rsdec const m s).infoBytes) := by
  cases hdecode : rsDecode const (maskChecks m s.infoBytes) with
  | ok c n pos =>
    have hc := rsCodeword_of_rsDecode_ok (length_maskChecks_of_length m s.length_infoBytes) hdecode
    rw [rsdec_of_ok hdecode, State.infoBytes_of_packInfoBytes (length_maskChecks_of_length m hc.1) rfl,
      maskChecks_maskChecks m hc.1]
    exact iff_of_true rfl hc
  | fail =>
    rw [rsdec_of_fail hdecode]
    refine iff_of_false (by simp [Status.after]) fun hc => ?_
    cases hdecode.symm.trans (rsDecode_of_codeword hc)

/-- Settles O44: both commands succeed exactly on a masked codeword in INFO, which CRCCHK reads after RSDEC. -/
theorem crcchkPassesExactlyAfterSuccessfulRsdec : Obligations.CrcchkPassesExactlyAfterSuccessfulRsdec := by
  intro p hp q hq hmask s
  refine ⟨_, _, exec_of_mem_rsdecMasks hp s, exec_of_mem_crcchk24Masks hq _, ?_, rsdec_ok_iff p.2 s,
    rsdec_info_of_not_ok, ?_⟩
  · rw [Bool.eq_iff_iff, rsdec_ok_iff, ← hmask, crcchk24_ok_iff]
  · rw [crcchk24_eq]

end Sys2Proof.Machine
end

section
/-! SUPPORT. Errors and dropped writes (60_exceptions R270, R272, R283): the errors of each command, its results as a function of
its operands, and the events that set and clear WDROP. -/

namespace Sys2Proof.Machine

/-! ### The errors of a command (R270) -/

/-- The STATUS that a command answers with the default constants: `execWith_status`, for exec. -/
theorem status_of_exec {i : Instr} {s t : State} (h : exec i s = .next t) :
    ∃ err ∈ .none :: errorsOf i, t.status = .after s.cmd (if i = .clear then false else s.status.wdrop) err := by
  obtain ⟨u, hu, hstatus⟩ := execWith_status const i s
  rwa [eq_of_exec_eq_next h ((exec_eq_execWith i s).trans hu)]

/-- Settles O9: a command completes without an error or with one of its own. -/
theorem errorsComeFromTheirCommand : Obligations.ErrorsComeFromTheirCommand := by
  intro i s t h
  obtain ⟨err, hmem, hstatus⟩ := status_of_exec h
  rw [hstatus]
  exact List.mem_cons.mp hmem

/-! ### The operands of two states that agree on the operand registers (R272) -/

theorem State.burstBit_congr {s t : State} (hburst : s.burst = t.burst) (hburst8 : s.burst8 = t.burst8) :
    s.burstBit = t.burstBit := by
  unfold State.burstBit State.burstWord
  rw [hburst, hburst8]

theorem State.infoBit_congr {s t : State} (h : s.info = t.info) : s.infoBit = t.infoBit := by
  unfold State.infoBit State.infoWord
  rw [h]

theorem State.infoBytes_congr {s t : State} (h : s.info = t.info) : s.infoBytes = t.infoBytes := by
  unfold State.infoBytes State.infoByte
  rw [State.infoBit_congr h]

/-! ### The results of a command, from its operands (R272) -/

/-- The two states agree on INFO, on the error and on the register `reg`. -/
def SameResults {α : Type} (reg : State → α) (s t : State) : Prop :=
  s.info = t.info ∧ s.status.err = t.status.err ∧ reg s = reg t

section
variable {s t : State} (h : s.SameOperands t) (k : Const)
include h

theorem classify_congr : SameResults State.clsr (classify k s) (classify k t) := by
  obtain ⟨-, hburst, hburst8, hinfo, -⟩ := h
  have hbit := congrFun (State.burstBit_congr hburst hburst8)
  rw [classify_eq, classify_eq, State.syncField_congr fun i _ _ => hbit i]
  exact ⟨hinfo, rfl, rfl⟩

theorem slottype_congr : SameResults State.str (slottype k s) (slottype k t) := by
  obtain ⟨-, hburst, hburst8, hinfo, hfilter⟩ := h
  have hbit := congrFun (State.burstBit_congr hburst hburst8)
  obtain ⟨hstr, herr⟩ := slottypeResult_congr hfilter (stDecode k t.slotTypeWord)
  refine ⟨?_, ?_⟩
  · rw [slottype_frame k s, slottype_frame k t, hinfo]
  · rw [slottype, slottype, State.slotTypeWord_congr (fun i _ _ => hbit i) fun i _ _ => hbit i]
    exact ⟨herr, hstr⟩

theorem bptc_congr : SameResults State.bptcr (bptc k s) (bptc k t) := by
  obtain ⟨-, hburst, hburst8, hinfo, -⟩ := h
  have hbit := congrFun (State.burstBit_congr hburst hburst8)
  have hmatrix : s.matrix k = t.matrix k :=
    State.matrix_congr k fun _ => State.bptcRaw_congr (fun i _ => hbit i) fun i _ _ => hbit i
  rw [bptc_eq, bptc_eq, hmatrix, bptcResult_eq k s, bptcResult_eq k t]
  exact ⟨congrArg (ite _ _) hinfo, rfl, rfl⟩

theorem rsdec_congr (m : BitVec 24) : SameResults State.rsr (rsdec k m s) (rsdec k m t) := by
  obtain ⟨-, -, -, hinfo, -⟩ := h
  rw [rsdec, rsdec, State.infoBytes_congr hinfo]
  cases rsDecode k (maskChecks m t.infoBytes) with
  | ok c n pos => exact ⟨rfl, rfl, rfl⟩
  | fail => exact ⟨hinfo, rfl, rfl⟩

theorem crcchkResult_congr (computed recv : BitVec 24) :
    SameResults State.crcr (crcchkResult s computed recv) (crcchkResult t computed recv) := by
  obtain ⟨-, -, -, hinfo, -⟩ := h
  rw [crcchkResult_eq, crcchkResult_eq]
  exact ⟨hinfo, rfl, rfl⟩

theorem crcchk24_congr (m : BitVec 24) : SameResults State.crcr (crcchk24 k m s) (crcchk24 k m t) := by
  have ⟨_, _, _, hinfo, _⟩ := h
  rw [crcchk24, crcchk24, State.infoBytes_congr hinfo, State.infoBit_congr hinfo]
  exact crcchkResult_congr h _ _

theorem crcchk16_congr (m : BitVec 16) : SameResults State.crcr (crcchk16 k m s) (crcchk16 k m t) := by
  have ⟨_, _, _, hinfo, _⟩ := h
  rw [crcchk16, crcchk16, State.infoBit_congr hinfo]
  exact crcchkResult_congr h _ _

end

/-- The two states agree on the result register of the command (R46); NOP and CLEAR compute no result. -/
def SameResultOf (s t : State) : Instr → Prop
  | .nop | .clear => True
  | .classify => s.clsr = t.clsr
  | .slottype => s.str = t.str
  | .bptc => s.bptcr = t.bptcr
  | .rsdecNone | .rsdecVlc | .rsdecTlc => s.rsr = t.rsr
  | .crcchkVlc | .crcchkTlc | .crcchkPi | .crcchkDh | .crcchkCsbk => s.crcr = t.crcr

theorem exec_congr {i : Instr} {s t s' t' : State} (h : s.SameOperands t) (hs : exec i s = .next s')
    (ht : exec i t = .next t') : s'.info = t'.info ∧ s'.status.err = t'.status.err ∧ SameResultOf s' t' i := by
  have ⟨_, _, _, hinfo, _⟩ := h
  cases i <;> rw [← Host.Outcome.next.inj hs, ← Host.Outcome.next.inj ht]
  case nop | clear => exact ⟨hinfo, rfl, trivial⟩
  case classify => exact classify_congr h const
  case slottype => exact slottype_congr h const
  case bptc => exact bptc_congr h const
  case rsdecNone | rsdecVlc | rsdecTlc => exact rsdec_congr h const _
  case crcchkVlc | crcchkTlc => exact crcchk24_congr h const _
  case crcchkPi | crcchkDh | crcchkCsbk => exact crcchk16_congr h const _

/-- Settles O18: equal operands give equal results and an equal error, and R131 fixes OK by the error and LASTOP by CMD. -/
theorem commandsDependOnlyOnOperands : Obligations.CommandsDependOnlyOnOperands := by
  intro i s t h
  obtain ⟨s', hs, -, -, hoks, hlasts, -⟩ := everyCommandCompletes.1 i s
  obtain ⟨t', ht, -, -, hokt, hlastt, -⟩ := everyCommandCompletes.1 i t
  obtain ⟨hinfo, herr, hresult⟩ := exec_congr h hs ht
  obtain ⟨hcmd, -⟩ := h
  have hok : s'.status.ok = t'.status.ok := by rw [Bool.eq_iff_iff, hoks, hokt, herr]
  have hlast : s'.status.lastop = t'.status.lastop := by rw [hlasts, hlastt, hcmd]
  refine ⟨s', t', hs, ht, hinfo, hok, herr, hlast, ?_, ?_, ?_, ?_, ?_⟩
  · rintro rfl; exact hresult
  · rintro rfl; exact hresult
  · rintro rfl; exact hresult
  · rintro (rfl | rfl | rfl) <;> exact hresult
  · rintro (rfl | rfl | rfl | rfl | rfl) <;> exact hresult

/-! ### A write while BUSY (R283) -/

/-- Settles O51: the access is defined, and the address map decides whether the dropped write is recorded. -/
theorem writeWhileBusyIsDropped : Obligations.WriteWhileBusyIsDropped := by
  intro s off v hbusy halign hin
  refine (guardAccess_of_inWindow halign hin _).trans (congrArg Host.Outcome.next ?_)
  rcases s.hostWrite_cases off v with ⟨hnone, heq⟩ | ⟨r, hr, -, heq⟩ | ⟨_, -, hidle, -⟩
  · rw [heq, if_pos hnone]
  · rw [heq, if_neg (by simp [hr])]
    rfl
  · simp [hbusy] at hidle

/-! ### The events that write WDROP (R33, R283) -/

/-- The next step drops a host write to a mapped offset. -/
def State.DropsWrite (s : State) : Prop :=
  s.status.busy = true ∧ ∃ (off : Nat) (v : Word) (rest : List HostOp),
    s.HostTurn (.write 4 off v) rest ∧ regAt off ≠ none

/-- The next step is the core step of CLEAR, a reset, or a write of STATUS with bit 16 = 1 while BUSY = 0. -/
def State.ClearsWdrop (s : State) : Prop :=
  (s.CoreTurn ∧ s.cmd = 0x00000006) ∨ (∃ rest, s.HostTurn .reset rest) ∨
    (s.status.busy = false ∧ ∃ (v : Word) (rest : List HostOp),
      s.HostTurn (.write 4 0x008 v) rest ∧ v.getLsbD 16 = true)

/-- The three kinds of step (R78, R282), by whose turn it is. -/
theorem step_cases_by_turn {s t : State} (h : step s = .next t) :
    t = s ∨ s.CoreTurn ∨ ∃ op rest, s.HostTurn op rest ∧ hostStep op (s.popInput rest) = .next t := by
  rcases s.turn_cases with ⟨hidle, hnil, -⟩ | ⟨hbusy, hnext, -⟩ | ⟨op, rest, hinputs, hwait, -⟩
  · exact .inl (Host.Outcome.next.inj (h.symm.trans (stepRunsTheNextInput.2 s hidle hnil)))
  · exact .inr (.inl ⟨hbusy, hnext⟩)
  · have hturn : s.HostTurn op rest := ⟨hinputs, by simpa [Decidable.imp_iff_not_or] using hwait⟩
    exact .inr (.inr ⟨op, rest, hturn, (step_of_hostTurn hturn).symm.trans h⟩)

theorem State.hostRead_wdrop (s : State) (off : Nat) : (s.hostRead off).status.wdrop = s.status.wdrop := by
  rcases s.hostRead_cases off with ⟨-, -, heq⟩ | ⟨-, heq⟩ <;> rw [heq]

theorem State.writeReg_wdrop_of_ne {r : Reg} (h : r ≠ .status) (s : State) (v : Word) :
    (s.writeReg v r).status.wdrop = s.status.wdrop := by
  cases r with
  | status => exact absurd rfl h
  | burst k =>
    rw [State.writeReg, State.writeBurst]
    split <;> rfl
  | id | cmd | ccfilt | clsr | str | bptcr | rsr | crcr | info _ => rfl

theorem State.hostWrite_wdrop (s : State) (off : Nat) (v : Word) :
    (s.hostWrite off v).status.wdrop = s.status.wdrop ∨
      (s.status.busy = true ∧ regAt off ≠ none ∧ (s.hostWrite off v).status.wdrop = true) ∨
      (s.status.busy = false ∧ off = 0x008 ∧ v.getLsbD 16 = true ∧ (s.hostWrite off v).status.wdrop = false) := by
  rcases s.hostWrite_cases off v with ⟨-, heq⟩ | ⟨r, hr, hbusy, heq⟩ | ⟨r, hr, hidle, heq⟩ <;> rw [heq]
  · exact .inl rfl
  · exact .inr (.inl ⟨hbusy, by simp [hr], rfl⟩)
  · by_cases hstatus : r = .status
    · subst hstatus
      rw [State.writeReg_status]
      cases hv : v.getLsbD 16 with
      | false => exact .inl (Bool.and_true _)
      | true => exact .inr (.inr ⟨hidle, regAt_eq_some_iff.mp hr, rfl, Bool.and_false _⟩)
    · exact .inl (s.writeReg_wdrop_of_ne hstatus v)

theorem State.hostStep_wdrop {s t : State} {op : HostOp} {rest : List HostOp} (hturn : s.HostTurn op rest)
    (h : hostStep op (s.popInput rest) = .next t) :
    t.status.wdrop = s.status.wdrop ∨ (s.DropsWrite ∧ t.status.wdrop = true) ∨
      (s.ClearsWdrop ∧ t.status.wdrop = false) := by
  rcases hostStep_cases h with ⟨_, off, -, -, rfl⟩ | ⟨width, off, v, rfl, hwf, rfl⟩ | ⟨-, rfl⟩ | ⟨rfl, rfl⟩
  · exact .inl (State.hostRead_wdrop _ off)
  · obtain rfl : width = 4 := by simp [accessWellFormed] at hwf; omega
    rcases (s.popInput rest).hostWrite_wdrop off v with hkept | ⟨hbusy, hmapped, hset⟩ | ⟨hidle, rfl, hv, hclear⟩
    · exact .inl hkept
    · exact .inr (.inl ⟨⟨hbusy, off, v, rest, hturn, hmapped⟩, hset⟩)
    · exact .inr (.inr ⟨.inr (.inr ⟨hidle, v, rest, hturn, hv⟩), hclear⟩)
  · exact .inl (by rw [State.hostPoll_eq]; rfl)
  · exact .inr (.inr ⟨.inr (.inl ⟨rest, hturn⟩), rfl⟩)

theorem State.coreStep_wdrop {s t : State} (hturn : s.CoreTurn) (h : step s = .next t) :
    t.status.wdrop = s.status.wdrop ∨ (s.ClearsWdrop ∧ t.status.wdrop = false) := by
  rcases step_of_coreTurn hturn h with ⟨i, hdecode, hexec⟩ | ⟨code, -, rfl⟩
  · obtain ⟨_, -, hstatus⟩ := status_of_exec hexec
    rw [hstatus]
    by_cases hclear : i = .clear
    · subst hclear
      exact .inr ⟨.inl ⟨hturn, (decode_eq_ok_clear_iff _).mp hdecode⟩, rfl⟩
    · exact .inl (if_neg hclear)
  · exact .inl rfl

/-- A step keeps WDROP, sets it as it drops a write, or clears it by one of the events of R283. -/
theorem step_wdrop {s t : State} (h : step s = .next t) :
    t.status.wdrop = s.status.wdrop ∨ (s.DropsWrite ∧ t.status.wdrop = true) ∨
      (s.ClearsWdrop ∧ t.status.wdrop = false) := by
  rcases step_cases_by_turn h with rfl | hturn | ⟨op, rest, hturn, hstep⟩
  · exact .inl rfl
  · exact (State.coreStep_wdrop hturn h).imp_right .inr
  · exact State.hostStep_wdrop hturn hstep

/-- Settles O52: a step that changes WDROP sets it or clears it, each by its own events. -/
theorem wdropIsSticky : Obligations.WdropIsSticky := by
  intro s t h
  rcases step_wdrop h with hkept | ⟨hdrop, hset⟩ | ⟨hevent, hclear⟩
  · rw [hkept]
    exact ⟨fun h0 h1 => by simp [h0] at h1, fun h1 h0 => by simp [h1] at h0⟩
  · exact ⟨fun _ _ => hdrop, fun _ h0 => by simp [hset] at h0⟩
  · exact ⟨fun _ h1 => by simp [hclear] at h1, fun _ _ => hevent⟩

end Sys2Proof.Machine
end

section
/-! SUPPORT. Reset and hazards (70_reset_and_hazards R300, R308): what a reset leaves, and how a pending command comes to
its core step. -/

namespace Sys2Proof.Machine

/-! ### Reset (R300) -/

theorem State.windowRead_resetCore (s : State) (off : Nat) : s.resetCore.windowRead off = State.reset.windowRead off :=
  State.windowRead_eq_of_not_mem (offs := []) (fun r _ => by cases r <;> rfl) List.not_mem_nil

/-- Settles O57: a reset at its turn answers the registers of `State.reset`, whatever the state before. -/
theorem resetDiscardsThePendingCommand : Obligations.ResetDiscardsThePendingCommand := fun s rest hturn =>
  ⟨(s.popInput rest).resetCore, step_of_hostTurn hturn, rfl, State.windowRead_resetCore _, rfl, rfl, rfl, rfl, rfl⟩

/-! ### A pending command (R78, R81, R308) -/

theorem exists_hostStep_of_wellFormed {op : HostOp} (h : op.wellFormed = true) (s : State) :
    ∃ t, hostStep op s = .next t := by
  cases op with
  | read width off => exact ⟨_, guardAccess_eq_next.mpr ⟨h, rfl⟩⟩
  | write width off v => exact ⟨_, guardAccess_eq_next.mpr ⟨h, rfl⟩⟩
  | wait => exact ⟨_, rfl⟩
  | reset => exact ⟨_, rfl⟩

/-- While BUSY an input leaves the queue as it is, or, as a `wait`, puts itself back (R107; log 7). -/
theorem hostStep_inputs_of_busy {op : HostOp} {s t : State} (hbusy : s.status.busy = true) (h : hostStep op s = .next t) :
    t.inputs = s.inputs ∨ t.inputs = op :: s.inputs := by
  rcases hostStep_cases h with ⟨_, off, -, -, rfl⟩ | ⟨_, off, v, -, -, rfl⟩ | ⟨rfl, rfl⟩ | ⟨-, rfl⟩
  · rcases s.hostRead_cases off with ⟨-, -, heq⟩ | ⟨-, heq⟩ <;> exact .inl (by simp [heq])
  · rcases State.hostWrite_of_busy hbusy off v with heq | heq <;> exact .inl (by simp [heq])
  · exact .inr (by rw [State.hostPoll_eq, if_pos hbusy])
  · exact .inl rfl

/-- A command is pending, and every input still to come is a `wait` or an access that the core defines: none is a reset. -/
def State.PendingUndisturbed (s : State) : Prop :=
  s.status.busy = true ∧ ∀ op ∈ s.inputs, op.wellFormed = true ∧ op ≠ .reset

theorem State.coreTurn_or_hostTurn {s : State} (hbusy : s.status.busy = true) :
    s.CoreTurn ∨ s.delay ≠ 0 ∧ ∃ op rest, s.HostTurn op rest := by
  rcases s.turn_cases with ⟨hidle, -, -⟩ | ⟨-, hnext, -⟩ | ⟨op, rest, hinputs, hidle | hdelay, -⟩
  · simp [hbusy] at hidle
  · exact .inl ⟨hbusy, hnext⟩
  · simp [hbusy] at hidle
  · exact .inr ⟨hdelay, op, rest, hinputs, fun h => hdelay h.2⟩

/-- An input before the core step uses up one of the drawn number and keeps the operands (R81). -/
theorem State.PendingUndisturbed.step_keeps {s : State} {op : HostOp} {rest : List HostOp}
    (h : s.PendingUndisturbed) (hturn : s.HostTurn op rest) :
    ∃ t, step s = .next t ∧ t.PendingUndisturbed ∧ t.delay = s.delay - 1 ∧ s.SameOperands t := by
  obtain ⟨hbusy, hall⟩ := h
  rw [hturn.1, List.forall_mem_cons] at hall
  obtain ⟨⟨hwf, hop⟩, hrest⟩ := hall
  obtain ⟨t, ht⟩ := exists_hostStep_of_wellFormed hwf (s.popInput rest)
  have hframe := hostStep_frame_of_busy (s := s.popInput rest) hbusy hop ht
  have hinputs : ∀ op ∈ t.inputs, op.wellFormed = true ∧ op ≠ .reset := by
    rcases hostStep_inputs_of_busy (s := s.popInput rest) hbusy ht with heq | heq <;> rw [heq]
    · exact hrest
    · exact List.forall_mem_cons.mpr ⟨⟨hwf, hop⟩, hrest⟩
  refine ⟨t, (step_of_hostTurn hturn).trans ht, ⟨?busy, hinputs⟩, ?delay, ?operands⟩
  case busy => rw [hframe]; exact hbusy
  case delay => rw [hframe]; exact if_pos hbusy
  case operands => rw [hframe]; exact ⟨rfl, rfl, rfl, rfl, rfl⟩

theorem State.sameOperands_trans {s t u : State} (hst : s.SameOperands t) (htu : t.SameOperands u) : s.SameOperands u := by
  obtain ⟨hcmd, hburst, hburst8, hinfo, hccfilt⟩ := hst
  obtain ⟨hcmd', hburst', hburst8', hinfo', hccfilt'⟩ := htu
  exact ⟨hcmd.trans hcmd', hburst.trans hburst', hburst8.trans hburst8', hinfo.trans hinfo', hccfilt.trans hccfilt'⟩

theorem run_succ_of_step {s t : State} (h : step s = .next t) (n : Nat) :
    Host.Core.run Sys2Proof.core (n + 1) s = Host.Core.run Sys2Proof.core n t := by
  have hcore : Sys2Proof.core.step s = .next t := h
  simp only [Host.Core.run, hcore]

/-- By induction on the inputs left before the core step: the pending command comes to its turn with its operands. -/
theorem State.PendingUndisturbed.exists_run_coreTurn {s : State} (h : s.PendingUndisturbed) :
    ∃ (n : Nat) (t : State), n ≤ s.delay ∧
      (Host.Core.run Sys2Proof.core n s : Host.Outcome State Fault Refusal) = .next t ∧
      s.SameOperands t ∧ t.CoreTurn := by
  induction hdelay : s.delay generalizing s with
  | zero =>
    rcases State.coreTurn_or_hostTurn h.1 with hcore | ⟨hne, -⟩
    · exact ⟨0, s, le_rfl, rfl, ⟨rfl, rfl, rfl, rfl, rfl⟩, hcore⟩
    · exact absurd hdelay hne
  | succ d ih =>
    rcases State.coreTurn_or_hostTurn h.1 with hcore | ⟨-, op, rest, hturn⟩
    · exact ⟨0, s, Nat.zero_le _, rfl, ⟨rfl, rfl, rfl, rfl, rfl⟩, hcore⟩
    · obtain ⟨t, hstep, hpending, hdelay', hops⟩ := h.step_keeps hturn
      obtain ⟨n, u, hn, hrun, hops', hcore⟩ := ih hpending (by omega)
      exact ⟨n + 1, u, Nat.succ_le_succ hn, (run_succ_of_step hstep n).trans hrun,
        State.sameOperands_trans hops hops', hcore⟩

/-- R131: at the core's turn the step completes the command, whatever the word in CMD. -/
theorem State.CoreTurn.step_completes {s : State} (h : s.CoreTurn) :
    ∃ t, step s = .next t ∧ t.status.busy = false ∧ t.status.done = true := by
  cases hdecode : decode s.cmd with
  | ok i =>
    obtain ⟨t, hexec, hbusy, hdone, -⟩ := everyCommandCompletes.1 i s
    exact ⟨t, (step_of_decode_ok h hdecode).trans hexec, hbusy, hdone⟩
  | error code => exact ⟨_, step_of_decode_error h hdecode, rfl, rfl⟩

/-- Settles O14: the command comes to its turn within the drawn number of inputs, and the step there completes it. -/
theorem pendingCommandCompletes : Obligations.PendingCommandCompletes := by
  intro s hbusy hinputs
  have hpending : s.PendingUndisturbed := ⟨hbusy, hinputs⟩
  obtain ⟨n, t, hn, hrun, hops, hcore⟩ := hpending.exists_run_coreTurn
  obtain ⟨u, hstep, hbusy', hdone⟩ := hcore.step_completes
  exact ⟨n, t, u, hn, hrun, hops, hcore, hstep, hbusy', hdone⟩

end Sys2Proof.Machine
end
